-- ==== Sys2Proof/Word.lean ====
section
/-! DEFINITION. The word types of the EC408 (00_scope.md, section 5). -/

namespace Sys2Proof

/-- One byte of counter memory, of a frame or of a label. -/
abbrev Byte := BitVec 8

/-- A 32-bit word: a register, a journal count, a CRC-32. -/
abbrev Word := BitVec 32

/-- A lane count: 16-bit and free running, modulo 65,536 (00_scope.md, section 5). -/
abbrev Count := BitVec 16

end Sys2Proof
end

