-- ==== Sys2Proof/Config.lean ====
section
/-! DEFINITION. The constants of the part, and the free values the manual leaves open. -/

namespace Sys2Proof

/-- Bytes of counter memory (chapter 9: 262,144 bytes). -/
def Config.memorySize : Nat := 262144

/-- The most frames an outgoing list holds (R174, R176). -/
def Config.outgoingCapacity : Nat := 8

/-- FREE VALUE (no body, so no proof can see it): R176 says which frame gives way to a ninth frame for
the dispenser's answers and on L11 while a LIST or a CALL waits, and says nothing for the other cases
(a WELCOME beside eight waiting frames, say). In those cases the `n`-th draw says whether the ninth frame takes
the place of the oldest waiting one (`true`) or does not join (`false`). Log 13. -/
opaque Config.ninthFrameJoins (n : Nat) : Bool

end Sys2Proof
end

