-- ==== Sys2Proof/Syntax.lean ====
section
/-! DEFINITION. The commands of the EC408: one constructor per row of spec/opcode_table.json. -/

namespace Sys2Proof

/-- A station, 0 to 7. -/
abbrev Station := Fin 8

/-- An equipment link, L0 to L11. -/
abbrev LinkNo := Fin 12

/-- A printer, 0 or 1. -/
abbrev PrinterNo := Fin 2

/-- A slot of the order table, 0 to 31. -/
abbrev SlotNo := Fin 32

/-- The commands. A request row has no operand: its lane and its parameters are those of the slot LU reads (R165, R166).
A frame row names the station, printer or link it arrives on and its payload fields (11.7). -/
inductive Instr where
  /-- START: code 1 written to CONTROL (R157). -/
  | start
  /-- STARTING_COMPLETE: the checks and loads of STARTING (R154 to R156). -/
  | startingComplete
  /-- HALT: code 2 written to CONTROL (R158). -/
  | halt
  /-- RESET: code 3 written to CONTROL (R159). -/
  | reset
  /-- RESET_PIN: the RESET pin becomes active (R159). -/
  | resetPin
  /-- REARM_LANES: code 4 written to CONTROL (R163). -/
  | rearmLanes
  /-- CONTROL_UNKNOWN_CODE: any other code written to CONTROL (R157). -/
  | controlUnknownCode (code : Word)
  /-- WAKE: a write to WAKE (R160, R164). -/
  | wake (value : Word)
  /-- NOTICE_WRITE: a write to NOTICE (R172). -/
  | noticeWrite (value : Word)
  /-- NOTICE_ROUTE_WRITE: a write to NOTICE_ROUTE (R173). -/
  | noticeRouteWrite (value : Word)
  /-- REGISTER_WRITE: a write to a register that has no row of its own (R160). -/
  | registerWrite (offset value : Word)
  /-- SWEEP_TIMER_EXPIRY (R164). -/
  | sweepTimerExpiry
  /-- SWEEP: the sweep in progress, to its end (R165). -/
  | sweep
  /-- UNKNOWN_KIND: the next request has a kind outside 1 to 19 (R166). -/
  | unknownKind
  /-- OPEN_DAY: the next request is kind 1 (R140). -/
  | openDay
  /-- CLOSE_DAY: kind 2 (R141). -/
  | closeDay
  /-- CANCEL_CLOSE: kind 3 (R147). -/
  | cancelClose
  /-- SET_CLOCK: kind 4 (R139). -/
  | setClock
  /-- READ_TOTALS: kind 5 (R153). -/
  | readTotals
  /-- SWITCH_PRICES: kind 6 (R53). -/
  | switchPrices
  /-- CHECK_PRICES: kind 7 (R54). -/
  | checkPrices
  /-- RELOAD_STATION: kind 8 (R4). -/
  | reloadStation
  /-- STATION_MODE: kind 9 (R47). -/
  | stationMode
  /-- READ_STATION: kind 10 (R48). -/
  | readStation
  /-- REPRINT: kind 11 (R95). -/
  | reprint
  /-- PRINTER_CLEAR: kind 12 (R96). -/
  | printerClear
  /-- ISSUE_TICKET: kind 13 (R105). -/
  | issueTicket
  /-- LINE_EDIT: kind 14 (R106). -/
  | lineEdit
  /-- OPEN_ORDER: kind 15 (R126). -/
  | openOrder
  /-- VOID_ORDER: kind 16 (R134). -/
  | voidOrder
  /-- CLERK_OFF: kind 17 (R123). -/
  | clerkOff
  /-- READ_ORDER: kind 18 (R136). -/
  | readOrder
  /-- READ_EQUIPMENT: kind 19 (R184). -/
  | readEquipment
  /-- SWITCH_COMPLETION: the running SWITCH job ends (R57, R58). -/
  | switchCompletion
  /-- CHECK_COMPLETION: the running CHECK job ends (R58). -/
  | checkCompletion
  /-- RE_LOOKUP: a station looks its PLU up again after a switch (R42). -/
  | reLookup (station : Station)
  /-- CLOCK_TICK: a tick of the one-second time base (R138). -/
  | clockTick
  /-- CALL_TIMER_EXPIRY: the call timer of a slot expires (R112). -/
  | callTimerExpiry (slot : SlotNo)
  /-- PRINT_TIMER_EXPIRY: the print timer of a printer expires (R91). -/
  | printTimerExpiry (printer : PrinterNo)
  /-- DEADLINE_EXPIRY: the deadline timer of a close expires (R143). -/
  | deadlineExpiry
  /-- FORCED_VOID: the next forced void of a close (R144). -/
  | forcedVoid
  /-- SILENCE_TIMER_EXPIRY: the silence timer of a link expires (R178). -/
  | silenceTimerExpiry (link : LinkNo)
  /-- HELLO: a good HELLO frame with its class code (R177). -/
  | hello (link : LinkNo) (cls : Byte)
  /-- ALIVE: a good ALIVE frame (R175). -/
  | alive (link : LinkNo)
  /-- BAD_FRAME: bytes received on a line, which the receiver of the link takes one at a time (R175). -/
  | badFrame (link : LinkNo) (bytes : List Byte)
  /-- SAMPLE: a raw count, signed 24-bit, and a sequence (R180). -/
  | sample (station : Station) (raw : BitVec 24) (seq : Byte)
  /-- DIGIT key (R28). -/
  | keyDigit (station : Station) (seq : Byte) (digit : Fin 10)
  /-- CLEAR key (R32). -/
  | keyClear (station : Station) (seq : Byte)
  /-- PLU key (R30). -/
  | keyPlu (station : Station) (seq : Byte)
  /-- REPEAT key (R31). -/
  | keyRepeat (station : Station) (seq : Byte)
  /-- ZERO key (R17, R18). -/
  | keyZero (station : Station) (seq : Byte)
  /-- TARE key (R19 to R21). -/
  | keyTare (station : Station) (seq : Byte)
  /-- PRINT key (R33). -/
  | keyPrint (station : Station) (seq : Byte)
  /-- RUN key (R39). -/
  | keyRun (station : Station) (seq : Byte)
  /-- CLERK key (R120, R122). -/
  | keyClerk (station : Station) (seq : Byte)
  /-- NEXT key (R107). -/
  | keyNext (station : Station) (seq : Byte)
  /-- RECALL key (R110). -/
  | keyRecall (station : Station) (seq : Byte)
  /-- SKIP key (R111). -/
  | keySkip (station : Station) (seq : Byte)
  /-- ORDER key (R129). -/
  | keyOrder (station : Station) (seq : Byte)
  /-- PARK key (R128). -/
  | keyPark (station : Station) (seq : Byte)
  /-- TOTAL key (R131). -/
  | keyTotal (station : Station) (seq : Byte)
  /-- VOID key (R130). -/
  | keyVoid (station : Station) (seq : Byte)
  /-- DONE: a printer reports a serial (R87). -/
  | printerDone (printer : PrinterNo) (serial : Word)
  /-- FAULT: a printer reports a fault by its reason code (R89). -/
  | printerFault (printer : PrinterNo) (reason : Byte)
  /-- READY: a printer reports its fault cleared (R90). -/
  | printerReady (printer : PrinterNo)
  /-- TAKE: one press of the dispenser's button (R103, R182). -/
  | take (seq : Byte)
  /-- PAPER_OUT of the dispenser (R104). -/
  | paperOut
  /-- OUTGOING_FRAME_SENT: the head of a link's outgoing list has been sent (R176). -/
  | outgoingFrameSent (link : LinkNo)
  /-- RESET_PIN_RELEASE: the RESET pin is released (R159). -/
  | resetPinRelease
  deriving DecidableEq, Repr

end Sys2Proof
end

