-- ==== Sys2Proof/Machine/State.lean ====
section
/-! DEFINITION. The state of the EC408 as plain data: every register, queue, buffer, counter, mode and pin the manual
gives its thirteen blocks (00_scope.md, section 3), and the queue of commands that wait. Reset values are those of the
"Reset" columns of R1, R25, R49, R67, R83, R97, R116, R137, R174 and of R156 to R160; the others are named in logs 2
and 23. -/

namespace Sys2Proof.Machine

open Sys2Proof

/-! ### Outcomes -/

/-- The EC408 never stops: each wrong or untimely input has a next state. No command raises a fault, so there is none to name
(log 5). -/
inductive Fault where
  deriving DecidableEq, Repr

/-- Why a command has no meaning in this model. -/
inductive Refusal where
  /-- Raised by an arm of `exec` whose command is not modelled yet; no arm raises it. Safe. -/
  | notModelled (mnemonic : String)
  deriving DecidableEq, Repr

/-! ### Counter memory -/

/-- Counter memory as (address, byte) pairs: addresses strictly rising and below 262,144, no zero byte listed. An unlisted
address reads 0 (log 2). -/
abbrev Memory := List Host.Cell

/-! ### Clock and calendar (R138) -/

/-- A calendar date, 2000-01-01 to 2099-12-31. -/
structure Date where
  year : Nat
  month : Nat
  day : Nat
  deriving DecidableEq, Repr

/-- A reading of the counter clock: a date and the seconds since midnight. -/
structure Stamp where
  date : Date
  time : Nat
  deriving DecidableEq, Repr

/-- The date after RESET (R137). -/
def Date.reset : Date := { year := 2000, month := 1, day := 1 }

/-- The clock after RESET (R137). -/
def Stamp.reset : Stamp := { date := Date.reset, time := 0 }

/-! ### Registers and notices (R160, R172, R173) -/

/-- The part states (9.2). -/
inductive PartState where
  | halted | starting | running | faulted
  deriving DecidableEq, Repr

/-- The start fault reasons (R155). -/
inductive StartFault where
  | none | signature | version | window | capacity | placement | overlap | outsideWindow
  deriving DecidableEq, Repr

/-- The control errors (R157, R158). -/
inductive ControlError where
  | none | already | busy | dayOpen | held | notRunning | faulted | unknownCode
  deriving DecidableEq, Repr

/-- The notice flags, in bit order (9.7). -/
inductive Flag where
  | answered | journal | journalHigh | station | printer | day | price | fault
  deriving DecidableEq, Repr

/-! ### Station weighing (chapter 1) -/

/-- The calibration fields of a settings record, those marked "cal" (R2). -/
structure Calibration where
  capacity : Nat
  range1Max : Nat
  d1 : Nat
  d2 : Nat
  calZero : Int
  spanNum : Nat
  spanDen : Nat
  deriving DecidableEq, Repr

/-- A valid station settings record (R2). -/
structure Settings where
  enabled : Bool
  cal : Calibration
  filterLen : Nat
  motionBand : Nat
  stableCount : Nat
  printWait : Nat
  linkTimeout : Nat
  preferred : PrinterNo
  alternate : Option PrinterNo
  looseAllowed : Bool
  repeatAllowed : Bool
  runAllowed : Bool
  zeroTracking : Bool
  deriving DecidableEq, Repr

/-- The load status (R1). -/
inductive LoadStatus where
  | none | loaded | failed
  deriving DecidableEq, Repr

/-- The weight states (R1). -/
inductive WeightState where
  | none | zeroing | motion | stable | over | under
  deriving DecidableEq, Repr

/-- The tare kinds (R1). -/
inductive TareKind where
  | none | keyed | preset
  deriving DecidableEq, Repr

/-- The range applied to a net weight (R15). -/
inductive RangeNo where
  | one | two
  deriving DecidableEq, Repr

/-- The state of one Weighing Engine channel (R1). -/
structure Channel where
  load : LoadStatus
  enabled : Bool
  settings : Option Settings
  heldCal : Option Calibration
  ring : List Int
  average : Int
  stable : Nat
  zeroTried : Bool
  zeroOffset : Int
  initialOffset : Int
  tareKind : TareKind
  tare : Int
  state : WeightState
  gross : Int
  net : Int
  shown : Option Int
  range : Option RangeNo
  zeroLit : Bool
  netLit : Bool
  deriving DecidableEq, Repr

/-- A channel after RESET or HALT (R1). -/
def Channel.reset : Channel :=
  { load := .none, enabled := false, settings := none, heldCal := none, ring := [], average := 0, stable := 0,
    zeroTried := false, zeroOffset := 0, initialOffset := 0, tareKind := .none, tare := 0, state := .none, gross := 0,
    net := 0, shown := none, range := none, zeroLit := false, netLit := false }

/-! ### Prices (chapter 3) -/

/-- The PLU kinds (R50). -/
inductive PluKind where
  | weighed | counted | fixed
  deriving DecidableEq, Repr

/-- A valid PLU record (R50). -/
structure PluRecord where
  plu : Nat
  kind : PluKind
  department : Fin 16
  layout : Fin 8
  repeatDefault : Bool
  unitPrice : Nat
  fixedTare : Nat
  shelfLife : Nat
  markdown : Nat
  name : List Byte
  deriving DecidableEq, Repr

/-- The price banks. -/
inductive Bank where
  | a | b
  deriving DecidableEq, Repr

/-- The kinds of validation job (R49). -/
inductive JobType where
  | switch | check
  deriving DecidableEq, Repr

/-- A running validation job (R49). -/
structure PriceJob where
  type : JobType
  bank : Bank
  count : Nat
  crc : Word
  deriving DecidableEq, Repr

/-- The two lanes (9.5). -/
inductive Lane where
  | urgent | routine
  deriving DecidableEq, Repr

/-- The identification of a request: its lane and the value of taken at its read (R166). -/
structure RequestId where
  lane : Lane
  number : Count
  deriving DecidableEq, Repr

/-- The state of the Price Unit (R49), with the bank bases of the directory (R154). -/
structure PriceUnit where
  active : Option Bank
  count : Nat
  crc : Word
  epoch : Nat
  fault : Bool
  job : Option PriceJob
  jobRequest : Option RequestId
  bankA : Nat
  bankB : Nat
  deriving DecidableEq, Repr

/-- The Price Unit after RESET or HALT (R49). -/
def PriceUnit.reset : PriceUnit :=
  { active := none, count := 0, crc := 0, epoch := 0, fault := false, job := none, jobRequest := none, bankA := 0,
    bankB := 0 }

/-! ### Station dialogue (chapter 2) -/

/-- The station messages, in the order of the message codes of 11.3 (blank is the absence of a message). -/
inductive Message where
  | noPlu | motion | over | under | belowMin | noZero | zeroRange | tareLimit | tareSet | unstable | pending | noClerk
  | noOrder | orderBusy | ordersFull | orderFull | noItems | lineEmpty | noPrinter | journalFull | priceFault
  | priceLimit | pluGone | noShow | dayClosed | closing | notAllowed
  deriving DecidableEq, Repr

/-- The mode of a station: NORMAL, or RUN with its arming (R25). -/
inductive Mode where
  | normal | runArmed | runDisarmed
  deriving DecidableEq, Repr

/-- The pending action of a station (R25). -/
inductive PendingAction where
  | none | print | tare
  deriving DecidableEq, Repr

/-- Where an item goes: an order slot, or loose (R25). -/
inductive Destination where
  | loose
  | slot (i : SlotNo)
  deriving DecidableEq, Repr

/-- The content of a display frame (R45). A blank unit price or live amount is `none`, a dark RANGE `none`, a blank
message `none`; an absent clerk or ticket is 0. -/
structure DisplayContent where
  weightText : List Byte
  zeroLit : Bool
  netLit : Bool
  range : Option RangeNo
  stableLit : Bool
  repeatLit : Bool
  run : Mode
  unitPrice : Option Nat
  liveAmount : Option Nat
  message : Option Message
  clerk : Nat
  ticket : Nat
  echo : Option Byte
  deriving DecidableEq, Repr

/-- The state of one Station Dialogue channel (R25). `relookup` (log 42) is set while the channel has been told of a price switch and has
not yet made the re-lookup of R42 (R57, step 7). -/
structure Dialogue where
  buffer : List (Fin 10)
  selection : Option PluRecord
  repeatOn : Bool
  mode : Mode
  pendingAction : PendingAction
  pendingBudget : Nat
  pendingDest : Option Destination
  transient : Option Message
  noShow : Bool
  zeroFailure : Bool
  lastDisplay : Option DisplayContent
  relookup : Bool
  deriving DecidableEq, Repr

/-- A dialogue channel after RESET or HALT (R25). -/
def Dialogue.reset : Dialogue :=
  { buffer := [], selection := none, repeatOn := false, mode := .normal, pendingAction := .none, pendingBudget := 0,
    pendingDest := none, transient := none, noShow := false, zeroFailure := false, lastDisplay := none,
    relookup := false }

/-! ### Labels and printers (chapters 4 and 5) -/

/-- The eighteen field kinds, in code order (11.5). -/
inductive FieldKind where
  | literal | pluName | pluNumber | netWeight | tare | count | unitPrice | amount | packDate | useBy | orderNumber
  | ticket | labelSerial | clerk | station | orderTotal | itemCount | barcode
  deriving DecidableEq, Repr

/-- A field entry of a layout (4.2). -/
structure FieldEntry where
  kind : FieldKind
  row : Nat
  column : Nat
  length : Nat
  format : Nat
  pattern : List Byte
  deriving DecidableEq, Repr

/-- A copy of a USABLE layout (R70). -/
structure Layout where
  lineCount : Nat
  width : Nat
  entries : List FieldEntry
  deriving DecidableEq, Repr

/-- An entry of the layout table (R67). -/
inductive LayoutEntry where
  | none
  | usable (layout : Layout)
  | unusable
  deriving DecidableEq, Repr

/-- The kinds of label job (5.1). -/
inductive LabelKind where
  | item | total | reprint
  deriving DecidableEq, Repr

/-- A label job (5.1). `text` holds the lines of the label. -/
structure LabelJob where
  serial : Nat
  kind : LabelKind
  reprintCount : Nat
  station : Station
  orderNumber : Option Nat
  text : List (List Byte)
  deriving DecidableEq, Repr

/-- The state of the Label Composer (R67), with the layouts base of the directory (R154). -/
structure LabelComposer where
  layouts : Vector LayoutEntry 8
  total : Option (Fin 8)
  nextSerial : Nat
  recent : List LabelJob
  base : Nat
  deriving DecidableEq, Repr

/-- The Label Composer after RESET or HALT (R67). -/
def LabelComposer.reset : LabelComposer :=
  { layouts := Vector.replicate 8 .none, total := none, nextSerial := 1, recent := [], base := 0 }

/-- The printer states (R83). -/
inductive PrinterState where
  | down | ready | busy | stopped
  deriving DecidableEq, Repr

/-- The stop reasons (R83). -/
inductive StopReason where
  | paperOut | headOpen | jam | noResponse
  deriving DecidableEq, Repr

/-- The state of one Print Queue Unit (R83). `timer` is the remaining time of the print timer in s, `none` when stopped;
`timeout` is the print timeout of the counter settings. -/
structure PrintQueue where
  state : PrinterState
  stop : Option StopReason
  queue : List LabelJob
  topSent : Bool
  timer : Option Nat
  timeout : Nat
  deriving DecidableEq, Repr

/-- A Print Queue Unit after RESET or HALT (R83). -/
def PrintQueue.reset : PrintQueue :=
  { state := .down, stop := none, queue := [], topSent := false, timer := none, timeout := 0 }

/-! ### Tickets (chapter 6) -/

/-- Where a ticket came from (R97). -/
inductive TicketSource where
  | dispenser | host
  deriving DecidableEq, Repr

/-- An entry of the waiting line (R97). -/
structure LineEntry where
  ticket : Nat
  issued : Nat
  skips : Nat
  source : TicketSource
  deriving DecidableEq, Repr

/-- A call record (R97). `timer` is the remaining time of the call timer in s, `none` when stopped. -/
structure CallRecord where
  timer : Option Nat
  level : Nat
  entry : LineEntry
  deriving DecidableEq, Repr

/-- The ticket settings (R98). -/
structure TicketSettings where
  callTimeout : Nat
  recallLimit : Nat
  skipLimit : Nat
  chimeTone : Nat
  chimeLevel : Nat
  envelope : Bool
  deriving DecidableEq, Repr

/-- The state of the Ticket Unit (R97). `inUse` holds the in-use bit of number n at index n − 1. -/
structure TicketUnit where
  inUse : Vector Bool 99
  next : Nat
  line : List LineEntry
  serving : List Nat
  calls : Vector (Option CallRecord) 32
  settings : TicketSettings
  deriving DecidableEq, Repr

/-- The Ticket Unit after RESET or HALT (R97, R98). -/
def TicketUnit.reset : TicketUnit :=
  { inUse := Vector.replicate 99 false, next := 1, line := [], serving := [], calls := Vector.replicate 32 none,
    settings := { callTimeout := 30, recallLimit := 0, skipLimit := 1, chimeTone := 0, chimeLevel := 8,
                  envelope := false } }

/-! ### Clerks and orders (chapter 7) -/

/-- A clerk record (R117): clerk number c stands at index c − 1. -/
structure ClerkRecord where
  station : Option Station
  slot : Option SlotNo
  deriving DecidableEq, Repr

/-- An item record (R37). -/
structure Item where
  number : Nat
  plu : Nat
  kind : PluKind
  epoch : Nat
  department : Fin 16
  net : Nat
  count : Nat
  tare : Nat
  unitPrice : Nat
  markdown : Nat
  amount : Nat
  serial : Nat
  station : Station
  clerk : Option (Fin 32)
  pricedAt : Stamp
  voided : Bool
  deriving DecidableEq, Repr

/-- Where an order came from (R118). -/
inductive OrderSource where
  | line | host
  deriving DecidableEq, Repr

/-- The order states (chapter 7). -/
inductive OrderState where
  | called | opened | parked
  deriving DecidableEq, Repr

/-- An order record (R118); its slot is its index in the order slots. -/
structure Order where
  number : Nat
  ticket : Nat
  source : OrderSource
  state : OrderState
  clerk : Option (Fin 32)
  items : List Item
  total : Nat
  opened : Nat
  callCount : Nat
  lastStation : Option Station
  deriving DecidableEq, Repr

/-- The state of the Order Table (R116). The free-slot map is the view "the slot holds no order" (R118). -/
structure OrderTable where
  clerks : Vector ClerkRecord 32
  slots : Vector (Option Order) 32
  next : Nat
  deriving DecidableEq, Repr

/-- The Order Table after RESET or HALT (R116). -/
def OrderTable.reset : OrderTable :=
  { clerks := Vector.replicate 32 { station := none, slot := none }, slots := Vector.replicate 32 none, next := 1 }

/-! ### The business day (chapter 8) -/

/-- The day state with, in CLOSING, the close stage, as STATUS shows them (R137). -/
inductive DayState where
  | closed | opened | waiting | forced
  deriving DecidableEq, Repr

/-- The forcing state of a close (R144): no forced void is due, the next is due, or the forcing is paused for journal room. -/
inductive Forcing where
  | idle | active | paused
  deriving DecidableEq, Repr

/-- The close job (R137, R141). `deadline` is the remaining time of the deadline timer in s, `none` when stopped. -/
structure CloseJob where
  request : RequestId
  area : Nat
  deadline : Option Nat
  forcing : Forcing
  deriving DecidableEq, Repr

/-- The grand accumulators (R148). -/
structure GrandTotals where
  ordersFinished : Nat
  ordersVoided : Nat
  itemsSold : Nat
  itemsVoided : Nat
  looseItems : Nat
  labelsIssued : Nat
  reprints : Nat
  ticketsIssued : Nat
  ticketsLapsed : Nat
  amount : Nat
  netWeight : Nat
  deriving DecidableEq, Repr

/-- One entry of the per-department, per-station, per-clerk and unclerked accumulators (R148). A department uses items, amount
and weight; a station and unclerked items and amount; a clerk orders, items and amount. The other places stay 0. -/
structure Tally where
  orders : Nat
  items : Nat
  amount : Nat
  weight : Nat
  deriving DecidableEq, Repr

/-- A tally of zeros. -/
def Tally.zero : Tally := { orders := 0, items := 0, amount := 0, weight := 0 }

/-- The accumulators (R148). -/
structure Accumulators where
  grand : GrandTotals
  departments : Vector Tally 16
  stations : Vector Tally 8
  clerks : Vector Tally 32
  unclerked : Tally
  deriving DecidableEq, Repr

/-- The accumulators after RESET, HALT and the completion of a close (R148). -/
def Accumulators.zero : Accumulators :=
  { grand := { ordersFinished := 0, ordersVoided := 0, itemsSold := 0, itemsVoided := 0, looseItems := 0,
               labelsIssued := 0, reprints := 0, ticketsIssued := 0, ticketsLapsed := 0, amount := 0, netWeight := 0 },
    departments := Vector.replicate 16 Tally.zero, stations := Vector.replicate 8 Tally.zero,
    clerks := Vector.replicate 32 Tally.zero, unclerked := Tally.zero }

/-- The state of the Day and Totals Unit (R137). -/
structure DayUnit where
  clock : Stamp
  businessDate : Date
  openedAt : Stamp
  day : DayState
  close : Option CloseJob
  acc : Accumulators
  deriving DecidableEq, Repr

/-- The Day and Totals Unit after RESET or HALT (R137). -/
def DayUnit.reset : DayUnit :=
  { clock := Stamp.reset, businessDate := Date.reset, openedAt := Stamp.reset, day := .closed, close := none,
    acc := Accumulators.zero }

/-! ### The journal (9.6) -/

/-- The outcome codes of an answer, in code order (R168), and CANCELLED of OP_DONE records (11.3). -/
inductive OutcomeCode where
  | done | started | unknownKind | badParam | wrongState | busy | notFound | full | calLocked | tooLate | priceFault
  | journalFull | cancelled
  deriving DecidableEq, Repr

/-- Why a bank failed its check (R55). -/
inductive BankReason where
  | count | crc | order | field
  deriving DecidableEq, Repr

/-- A failed bank check: the reason, the record index and the field (R55). -/
structure BankFailure where
  reason : BankReason
  index : Nat
  field : Nat
  deriving DecidableEq, Repr

/-- Why an order was voided (R133). -/
inductive VoidCause where
  | request | close | total
  deriving DecidableEq, Repr

/-- Why a ticket lapsed (R102). -/
inductive LapseCause where
  | skipLimit | lineFull | dropped | close
  deriving DecidableEq, Repr

/-- The reasons of a STATION_EVENT (11.4). -/
inductive StationReason where
  | settingsCrc | settingsField | layout | mismatch
  deriving DecidableEq, Repr

/-- The events of a PRINTER_EVENT (R94, R177). -/
inductive PrinterEvent where
  | fault | noResponse | linkDown | mismatch
  deriving DecidableEq, Repr

/-- What a journal record carries beside its head (11.4). -/
inductive RecordBody where
  | item (orderNumber ticket : Nat) (item : Item)
  | orderEnd (orderNumber ticket : Nat) (source : OrderSource) (clerk : Option (Fin 32)) (station : Station)
      (items voided total opened serial : Nat)
  | orderVoid (orderNumber ticket : Nat) (source : OrderSource) (clerk : Option (Fin 32)) (state : OrderState)
      (items : Nat) (cause : VoidCause) (amount : Nat)
  | dayOpen (openedAt : Stamp) (bank : Option Bank) (epoch count : Nat)
  | dayClose (openedAt completedAt : Stamp) (forced : Bool) (epoch area : Nat) (grand : GrandTotals)
  | priceSwitch (oldBank : Option Bank) (newBank : Bank) (count : Nat) (crc : Word) (epoch : Nat)
  | opDone (request : RequestId) (kind : Nat) (outcome : OutcomeCode) (failure : Option BankFailure)
  | stationEvent (reason : StationReason) (station : Option Station) (field check entry : Nat) (expected heard : Nat)
  | printerEvent (link : LinkNo) (event : PrinterEvent) (reason : Option StopReason) (serial queue : Nat)
  | ticketLapsed (entry : LineEntry) (cause : LapseCause)
  deriving DecidableEq, Repr

/-- The state of the Journal Writer (9.6). -/
structure JournalWriter where
  base : Nat
  capacity : Nat
  highMark : Nat
  written : Word
  seq : Word
  hold : List RecordBody
  fault : Bool
  deriving DecidableEq, Repr

/-- The Journal Writer after RESET or HALT (R158). -/
def JournalWriter.reset : JournalWriter :=
  { base := 0, capacity := 0, highMark := 0, written := 0, seq := 1, hold := [], fault := false }

/-! ### Lanes and sweeps (9.5) -/

/-- What LU holds of one lane (R154, R166). -/
structure LaneState where
  slotBase : Nat
  capacity : Nat
  taken : Count
  answered : Count
  fault : Bool
  deriving DecidableEq, Repr

/-- A lane after RESET or HALT (R158). -/
def LaneState.reset : LaneState := { slotBase := 0, capacity := 0, taken := 0, answered := 0, fault := false }

/-- A sweep in progress (R165): whether its steps 1 and 2 have been made, and how many ROUTINE requests it has taken. -/
structure Sweep where
  opened : Bool
  routineTaken : Nat
  deriving DecidableEq, Repr

/-- The state of the Lane Unit. -/
structure LaneUnit where
  urgent : LaneState
  routine : LaneState
  sweepMs : Nat
  routineBurst : Nat
  timerOn : Bool
  sweepPending : Bool
  sweep : Option Sweep
  deriving DecidableEq, Repr

/-- The Lane Unit after RESET or HALT (R158). -/
def LaneUnit.reset : LaneUnit :=
  { urgent := LaneState.reset, routine := LaneState.reset, sweepMs := 0, routineBurst := 0, timerOn := false,
    sweepPending := false, sweep := none }

/-! ### Equipment links (chapter 10) -/

/-- The link states (R174). -/
inductive LinkState where
  | down | up | mismatch
  deriving DecidableEq, Repr

/-- The equipment classes, codes 1 to 4 (11.7). -/
inductive EquipClass where
  | scaleHead | printer | dispenser | display
  deriving DecidableEq, Repr

/-- Why a TAKE is refused (R103). -/
inductive RefuseReason where
  | full | closed
  deriving DecidableEq, Repr

/-- The frames the part sends (10.4, 11.7). -/
inductive Frame where
  | welcome (link : LinkNo) (expected : EquipClass) (accepted : Bool)
  | display (content : DisplayContent)
  | job (serial : Nat) (kind : LabelKind) (reprintCount lineCount width firstLine : Nat) (lines : List (List Byte))
  | printTicket (ticket issued : Nat)
  | refuse (reason : RefuseReason)
  | call (ticket tone level : Nat) (envelope : Bool)
  | list (tickets : List Nat)
  deriving DecidableEq, Repr

/-- The state LK holds of one link (R174). `rx` is the frame being received, its SYNC first; empty is HUNTING. `silence` is the
period of the running silence timer in ms, `none` when stopped. -/
structure Link where
  state : LinkState
  classHeard : Option Byte
  rx : List Byte
  silence : Option Nat
  out : List Frame
  lastSample : Option Byte
  lastKey : Option Byte
  lastTake : Option Byte
  lastTakeAnswer : Option Frame
  deriving DecidableEq, Repr

/-- A link after RESET or HALT (R174). -/
def Link.reset : Link :=
  { state := .down, classHeard := none, rx := [], silence := none, out := [], lastSample := none, lastKey := none,
    lastTake := none, lastTakeAnswer := none }

/-! ### The directory (9.1) -/

/-- The configuration fields of the directory (R154, 11.2). -/
structure Directory where
  signature : List Byte
  version : Nat
  windowLow : Nat
  windowHigh : Nat
  urgentBase : Nat
  urgentCapacity : Nat
  routineBase : Nat
  routineCapacity : Nat
  journalBase : Nat
  journalCapacity : Nat
  highMark : Nat
  bankA : Nat
  bankB : Nat
  startBank : Nat
  startCount : Nat
  startCrc : Nat
  layoutsBase : Nat
  totalLayout : Nat
  settingsBase : Nat
  sweepMs : Nat
  routineBurst : Nat
  callTimeout : Nat
  recallLimit : Nat
  skipLimit : Nat
  chimeTone : Nat
  chimeLevel : Nat
  envelope : Nat
  printTimeout : Nat
  deriving DecidableEq, Repr

/-- The directory that MP holds before any START (log 23). -/
def Directory.reset : Directory :=
  { signature := [], version := 0, windowLow := 0, windowHigh := 0, urgentBase := 0, urgentCapacity := 0,
    routineBase := 0, routineCapacity := 0, journalBase := 0, journalCapacity := 0, highMark := 0,
    bankA := 0, bankB := 0, startBank := 0, startCount := 0, startCrc := 0, layoutsBase := 0,
    totalLayout := 0, settingsBase := 0, sweepMs := 0, routineBurst := 0, callTimeout := 0,
    recallLimit := 0, skipLimit := 0, chimeTone := 0, chimeLevel := 0, envelope := 0, printTimeout := 0 }

/-! ### The whole state -/

/-- The state of the EC408, its input pins, counter memory, and the queue of commands. -/
structure State where
  /-- The commands that wait, oldest first (the model's own field). -/
  pending : List Instr
  /-- The SERVICE input is active. -/
  service : Bool
  /-- The RESET pin is held active (R159). -/
  resetPin : Bool
  mem : Memory
  part : PartState
  startFault : StartFault
  controlError : ControlError
  /-- NOTICE: flag f in bit f (9.7). -/
  notice : BitVec 8
  /-- NOTICE_ROUTE: flag f in bits 2f and 2f + 1 (R173). -/
  route : BitVec 16
  /-- The write window, low and high (R161). -/
  window : Option (Nat × Nat)
  lu : LaneUnit
  jw : JournalWriter
  lk : Vector Link 12
  we : Vector Channel 8
  sd : Vector Dialogue 8
  pu : PriceUnit
  lc : LabelComposer
  pq : Vector PrintQueue 2
  tu : TicketUnit
  ot : OrderTable
  dt : DayUnit
  /-- The directory's `settings_base` (R154). -/
  settingsBase : Nat
  /-- The configuration fields as MP read them when the last START was taken (R154); STARTING works on them. -/
  directory : Directory
  /-- The stations whose display is composed at the end of the event under way (the model's own field, log 11). -/
  told : Vector Bool 8
  /-- How many free values have been drawn (the model's own field, log 13). -/
  freeIndex : Nat
  deriving DecidableEq, Repr

/-- Every block at its reset value; the queue, the pins, counter memory, the five registers and the index of free values stay
(R158, R159). -/
def State.resetBlocks (s : State) : State :=
  { s with
    window := none, lu := LaneUnit.reset, jw := JournalWriter.reset, lk := Vector.replicate 12 Link.reset,
    we := Vector.replicate 8 Channel.reset, sd := Vector.replicate 8 Dialogue.reset, pu := PriceUnit.reset,
    lc := LabelComposer.reset, pq := Vector.replicate 2 PrintQueue.reset, tu := TicketUnit.reset,
    ot := OrderTable.reset, dt := DayUnit.reset, settingsBase := 0, directory := Directory.reset,
    told := Vector.replicate 8 false }

/-- The part right after RESET, with counter memory as after power-on (log 2) and no command waiting (R159). -/
def State.reset : State :=
  { pending := [], service := false, resetPin := false, mem := [], part := .halted, startFault := .none,
    controlError := .none, notice := 0, route := 0, window := none, lu := LaneUnit.reset, jw := JournalWriter.reset,
    lk := Vector.replicate 12 Link.reset, we := Vector.replicate 8 Channel.reset,
    sd := Vector.replicate 8 Dialogue.reset, pu := PriceUnit.reset, lc := LabelComposer.reset,
    pq := Vector.replicate 2 PrintQueue.reset, tu := TicketUnit.reset, ot := OrderTable.reset, dt := DayUnit.reset,
    settingsBase := 0, directory := Directory.reset,
    told := Vector.replicate 8 false, freeIndex := 0 }

end Sys2Proof.Machine
end

