-- ==== Sys2Proof/Machine/Ops.lean ====
section
/-! DEFINITION. The named operations the blocks share: bytes and counter memory through MP, rounding, CRCs, the calendar,
and the accessors of the state's tables. -/

namespace Sys2Proof.Machine

open Sys2Proof

/-! ### Rounding -/

/-- `num ÷ den`, rounded half away from zero (R10). -/
def roundDiv (num : Int) (den : Nat) : Int :=
  if 0 ≤ num then (2 * num + den) / (2 * den) else -((2 * (-num) + den) / (2 * den))

/-- The value of `x` clamped to `lo` to `hi` (R98, R156). -/
def clamp (lo hi x : Nat) : Nat := if x < lo then lo else if hi < x then hi else x

/-! ### Little-endian fields (chapter 11) -/

/-- The low `n` bytes of `v`, least significant first. -/
def leBytes : Nat → Nat → List Byte
  | 0, _ => []
  | n + 1, v => BitVec.ofNat 8 v :: leBytes n (v / 256)

/-- The number that bytes spell, least significant first. -/
def leNat : List Byte → Nat
  | [] => 0
  | b :: bs => b.toNat + 256 * leNat bs

/-- `v` in a field of `n` bytes: a value that does not fit is carried as the largest the field holds (R186). -/
def field (n v : Nat) : List Byte := leBytes n (min v (256 ^ n - 1))

/-- `n` zero bytes (R185). -/
def zeros (n : Nat) : List Byte := List.replicate n 0

/-- `bytes` with zero bytes after them up to `n` bytes (R185). -/
def padTo (n : Nat) (bytes : List Byte) : List Byte := (bytes ++ zeros n).take n

/-! ### Counter memory -/

/-- The address the memory port drives: 16 address pins of 32-bit words, so 18 bits of byte address (10.7, log 3). -/
def portAddress (a : Nat) : Nat := a % Config.memorySize

/-- The byte at `a`; an unlisted address reads 0 (log 2). -/
def Memory.get : Memory → Nat → Byte
  | [], _ => 0
  | (k, v) :: rest, a => if k = a then v else Memory.get rest a

/-- The memory with `b` at `a`, in canonical form: a zero byte is not listed. -/
def Memory.put : Memory → Nat → Byte → Memory
  | [], a, b => if b = 0#8 then [] else [(a, b)]
  | (k, v) :: rest, a, b =>
    if a < k then (if b = 0#8 then (k, v) :: rest else (a, b) :: (k, v) :: rest)
    else if a = k then (if b = 0#8 then rest else (a, b) :: rest)
    else (k, v) :: Memory.put rest a b

/-- Every listed address is above `lo`, addresses rise strictly, no listed byte is 0. -/
def Memory.above : Nat → Memory → Bool
  | _, [] => true
  | lo, (k, v) :: rest => decide (lo < k) && v != 0#8 && Memory.above k rest

/-- The canonical form: addresses strictly rising and below 262,144, no zero byte listed. -/
def Memory.wf : Memory → Bool
  | [] => true
  | (k, v) :: rest =>
    v != 0#8 && Memory.above k rest && ((k, v) :: rest).all (fun c => decide (c.1 < Config.memorySize))

/-- `n` bytes from `a` on. -/
def Memory.bytes (m : Memory) (a : Nat) : Nat → List Byte
  | 0 => []
  | n + 1 => m.get (portAddress a) :: Memory.bytes m (a + 1) n

/-- The number in the `n` bytes at `a`. -/
def Memory.num (m : Memory) (a n : Nat) : Nat := leNat (m.bytes a n)

/-- Whether an address lies in the write window (R161). -/
def inWindow (w : Option (Nat × Nat)) (a : Nat) : Bool :=
  match w with
  | none => false
  | some (lo, hi) => decide (lo ≤ a) && decide (a < hi)

/-- The memory after the part writes `bytes` from `a` on, inside the window `w` only (R161, log 4). -/
def Memory.writeIn (w : Option (Nat × Nat)) : Memory → Nat → List Byte → Memory
  | m, _, [] => m
  | m, a, b :: bs =>
    Memory.writeIn w (if inWindow w (portAddress a) then m.put (portAddress a) b else m) (a + 1) bs

/-- The part writes `bytes` at `a` through MP (R161). -/
def MP.write (a : Nat) (bytes : List Byte) (s : State) : State :=
  { s with mem := Memory.writeIn s.window s.mem a bytes }

/-- The byte at `a`, as either side reads it. -/
def State.byte (s : State) (a : Nat) : Byte := s.mem.get (portAddress a)

/-- The number in the `n` bytes at `a`, as the part reads it through MP. -/
def MP.read (s : State) (a n : Nat) : Nat := s.mem.num a n

/-- The host writes `bytes` at `a` through its own port. No command does this: it may come between any two steps (log 1). -/
def State.hostWrite (s : State) (a : Nat) (bytes : List Byte) : State :=
  { s with mem := Memory.writeIn (some (0, Config.memorySize)) s.mem a bytes }

/-- The SERVICE key switch is turned. No command does this: it may come between any two steps (log 1). -/
def State.setService (s : State) (active : Bool) : State := { s with service := active }

/-! ### Check codes -/

/-- One byte into the CRC-16 of R175: polynomial 0x1021, most significant bit first. -/
def crc16Step (crc : BitVec 16) (b : Byte) : BitVec 16 :=
  Nat.repeat (fun r => if r.msb then (r <<< 1) ^^^ 0x1021#16 else r <<< 1) 8 (crc ^^^ (b.setWidth 16 <<< 8))

/-- The CRC-16 of equipment links and settings records (R175). -/
def crc16 (bytes : List Byte) : BitVec 16 := bytes.foldl crc16Step 0xFFFF#16

/-- One byte into the CRC-32 of R56: the reflected form of 0x04C11DB7, least significant bit first. -/
def crc32Step (crc : Word) (b : Byte) : Word :=
  Nat.repeat (fun r => if r.getLsbD 0 then (r >>> 1) ^^^ 0xEDB88320#32 else r >>> 1) 8 (crc ^^^ b.setWidth 32)

/-- The CRC-32 of a price bank (R56). -/
def crc32 (bytes : List Byte) : Word := bytes.foldl crc32Step 0xFFFFFFFF#32 ^^^ 0xFFFFFFFF#32

/-! ### The calendar (4.5, R138) -/

/-- The days of a month; every year of 2000 to 2099 divisible by 4 is a leap year. -/
def daysInMonth (year month : Nat) : Nat :=
  match month with
  | 2 => if year % 4 = 0 then 29 else 28
  | 4 | 6 | 9 | 11 => 30
  | _ => 31

/-- A day of the calendar 2000-01-01 to 2099-12-31 (R139). -/
def Date.valid (d : Date) : Bool :=
  decide (2000 ≤ d.year ∧ d.year ≤ 2099 ∧ 1 ≤ d.month ∧ d.month ≤ 12 ∧ 1 ≤ d.day ∧
    d.day ≤ daysInMonth d.year d.month)

/-- The next day, none after 2099-12-31 (R79, R138). -/
def Date.next (d : Date) : Option Date :=
  if d.day < daysInMonth d.year d.month then some { d with day := d.day + 1 }
  else if d.month < 12 then some { d with month := d.month + 1, day := 1 }
  else if d.year < 2099 then some { year := d.year + 1, month := 1, day := 1 }
  else none

/-- The date advanced by `n` days, none beyond 2099-12-31 (R79). -/
def Date.advance (d : Date) : Nat → Option Date
  | 0 => some d
  | n + 1 => d.next.bind (fun e => Date.advance e n)

/-- Days before a month of a year. -/
def daysBeforeMonth (year month : Nat) : Nat := ((List.range (month - 1)).map (fun m => daysInMonth year (m + 1))).sum

/-- Days since 2000-01-01. -/
def Date.index (d : Date) : Nat :=
  365 * (d.year - 2000) + (d.year - 2000 + 3) / 4 + daysBeforeMonth d.year d.month + (d.day - 1)

/-- Seconds since 2000-01-01 00:00:00 (the stamp of chapter 11). -/
def Stamp.seconds (t : Stamp) : Nat := t.date.index * 86400 + t.time

/-- The clock one second on (R138). -/
def Stamp.tick (t : Stamp) : Stamp :=
  if t.time < 86399 then { t with time := t.time + 1 }
  else { date := t.date.next.getD t.date, time := 0 }

/-- The date a date word spells: year × 10,000 + month × 100 + day (chapter 11). -/
def dateOfWord (w : Nat) : Date := { year := w / 10000, month := w / 100 % 100, day := w % 100 }

/-! ### The state's tables -/

/-- The eight stations, in order. -/
def stations : List Station := [0, 1, 2, 3, 4, 5, 6, 7]

/-- The link of a station: L0 to L7. -/
def stationLink (st : Station) : LinkNo := ⟨st.val, by omega⟩

/-- The link of a printer: L8 and L9. -/
def printerLink (p : PrinterNo) : LinkNo := ⟨8 + p.val, by omega⟩

/-- The dispenser's link. -/
def dispenserLink : LinkNo := 10

/-- The serving display's link. -/
def displayLink : LinkNo := 11

/-- The channel of a station. -/
def State.channel (s : State) (st : Station) : Channel := s.we[st]

/-- The dialogue of a station. -/
def State.dialogue (s : State) (st : Station) : Dialogue := s.sd[st]

/-- A link. -/
def State.link (s : State) (l : LinkNo) : Link := s.lk[l]

/-- A print queue. -/
def State.printer (s : State) (p : PrinterNo) : PrintQueue := s.pq[p]

/-- A clerk record. -/
def State.clerk (s : State) (c : Fin 32) : ClerkRecord := s.ot.clerks[c]

/-- The order in a slot. -/
def State.order (s : State) (i : SlotNo) : Option Order := s.ot.slots[i]

/-- The call record of a slot. -/
def State.callRecord (s : State) (i : SlotNo) : Option CallRecord := s.tu.calls[i]

/-- The state with another channel at a station. -/
def State.setChannel (st : Station) (ch : Channel) (s : State) : State :=
  { s with we := s.we.set st.val ch st.isLt }

/-- The state with a station's dialogue changed. -/
def State.modDialogue (st : Station) (f : Dialogue → Dialogue) (s : State) : State :=
  { s with sd := s.sd.set st.val (f s.sd[st]) st.isLt }

/-- The state with a link changed. -/
def State.modLink (l : LinkNo) (f : Link → Link) (s : State) : State :=
  { s with lk := s.lk.set l.val (f s.lk[l]) l.isLt }

/-- The state with a print queue changed. -/
def State.modPrinter (p : PrinterNo) (f : PrintQueue → PrintQueue) (s : State) : State :=
  { s with pq := s.pq.set p.val (f s.pq[p]) p.isLt }

/-- The state with another clerk record. -/
def State.setClerk (c : Fin 32) (r : ClerkRecord) (s : State) : State :=
  { s with ot := { s.ot with clerks := s.ot.clerks.set c.val r c.isLt } }

/-- The state with another order, or none, in a slot. -/
def State.setOrder (i : SlotNo) (o : Option Order) (s : State) : State :=
  { s with ot := { s.ot with slots := s.ot.slots.set i.val o i.isLt } }

/-- The state with another call record, or none, for a slot. -/
def State.setCall (i : SlotNo) (c : Option CallRecord) (s : State) : State :=
  { s with tu := { s.tu with calls := s.tu.calls.set i.val c i.isLt } }

/-- The station's display is to be composed at the end of the event (R46, log 11). -/
def SD.tell (st : Station) (s : State) : State := { s with told := s.told.set st.val true st.isLt }

/-- The link is UP. -/
def State.linkUp (s : State) (l : LinkNo) : Bool := (s.link l).state == .up

/-- The part runs the counter: RUNNING, and the RESET pin is not held (9.2, R159). -/
def State.running (s : State) : Bool := s.part == .running && !s.resetPin

/-! ### Reading the order table (R116 to R118) -/

/-- The clerk at a station (R117). -/
def OT.clerkAt (s : State) (st : Station) : Option (Fin 32) :=
  (List.finRange 32).find? (fun c => (s.clerk c).station == some st)

/-- The slot of the order of the clerk at a station, when it holds one, with the order. -/
def OT.orderAt (s : State) (st : Station) : Option (SlotNo × Order) :=
  (OT.clerkAt s st).bind (fun c => (s.clerk c).slot.bind (fun i => (s.order i).map (fun o => (i, o))))

/-- The slots that hold an order, lowest first. -/
def OT.inUse (s : State) : List SlotNo := (List.finRange 32).filter (fun i => (s.order i).isSome)

/-- The lowest free slot (R119). -/
def OT.lowestFree (s : State) : Option SlotNo := (List.finRange 32).find? (fun i => (s.order i).isNone)

/-- The items of an order that are not voided. -/
def Order.live (o : Order) : List Item := o.items.filter (fun i => !i.voided)

/-- The number of a clerk, 1 to 32; 0 for none. -/
def clerkNumber (c : Option (Fin 32)) : Nat :=
  match c with
  | none => 0
  | some c => c.val + 1

end Sys2Proof.Machine
end

