-- ==== Sys2Proof/Machine/Flags.lean ====
section
/-! DEFINITION. The notice flags, the NOTE and ALERT lines, and the five registers as the host reads them (9.3, 9.7, 11.1). -/

namespace Sys2Proof.Machine

open Sys2Proof

/-- The bit of a flag in NOTICE (9.7). -/
def Flag.bit : Flag → Nat
  | .answered => 0
  | .journal => 1
  | .journalHigh => 2
  | .station => 3
  | .printer => 4
  | .day => 5
  | .price => 6
  | .fault => 7

/-- An event sets a flag; a set flag stays set (R172). -/
def NU.set (f : Flag) (s : State) : State := { s with notice := s.notice ||| (1#8 <<< f.bit) }

/-- A flag is set. -/
def State.flag (s : State) (f : Flag) : Bool := s.notice.getLsbD f.bit

/-- A write to NOTICE clears each flag whose bit is 1; bits 8 to 31 are ignored (R172). -/
def NU.clear (value : Word) (s : State) : State := { s with notice := s.notice &&& ~~~(value.setWidth 8) }

/-- A write to NOTICE_ROUTE replaces every route; bits 16 to 31 are ignored (R173). -/
def NU.setRoute (value : Word) (s : State) : State := { s with route := value.setWidth 16 }

/-- Some set flag has the given bit of its route set: bit 0 drives NOTE, bit 1 drives ALERT (R173). -/
def NU.line (which : Nat) (s : State) : Bool :=
  (List.range 8).any (fun f => s.notice.getLsbD f && s.route.getLsbD (2 * f + which))

/-- The NOTE line is active (R173). -/
def State.noteLine (s : State) : Bool := NU.line 0 s

/-- The ALERT line is active (R173). -/
def State.alertLine (s : State) : Bool := NU.line 1 s

/-- Codes of the part state (11.1). -/
def PartState.code : PartState → Nat
  | .halted => 0
  | .starting => 1
  | .running => 2
  | .faulted => 3

/-- Codes of the start fault reason (11.1). -/
def StartFault.code : StartFault → Nat
  | .none => 0
  | .signature => 1
  | .version => 2
  | .window => 3
  | .capacity => 4
  | .placement => 5
  | .overlap => 6
  | .outsideWindow => 7

/-- Codes of the control error (11.1). -/
def ControlError.code : ControlError → Nat
  | .none => 0
  | .already => 1
  | .busy => 2
  | .dayOpen => 3
  | .held => 4
  | .notRunning => 5
  | .faulted => 6
  | .unknownCode => 7

/-- Codes of the day state (11.1). -/
def DayState.code : DayState → Nat
  | .closed => 0
  | .opened => 1
  | .waiting => 2
  | .forced => 3

/-- STATUS as a read finds it (R160, 11.1). DESIGN CHOICE: the bits 15 to 31, which no field names, read 0 (log 41). -/
def State.statusWord (s : State) : Word :=
  BitVec.ofNat 32 (s.part.code + 2 ^ 2 * s.startFault.code + 2 ^ 5 * s.controlError.code
    + 2 ^ 8 * s.lu.urgent.fault.toNat + 2 ^ 9 * s.lu.routine.fault.toNat + 2 ^ 10 * s.jw.fault.toNat
    + 2 ^ 11 * s.dt.day.code + 2 ^ 13 * s.pu.fault.toNat + 2 ^ 14 * (!s.jw.hold.isEmpty).toNat)

/-- A read of a host register; it changes nothing (R157, R160, R172, R173). CONTROL and WAKE read 0; an offset with no register
reads 0 (log 28). DESIGN CHOICE: the bits 8 to 31 of NOTICE and 16 to 31 of NOTICE_ROUTE, which no flag names, read 0 (log 41). -/
def State.readRegister (s : State) (offset : Word) : Word :=
  if offset = 0x00 then s.statusWord
  else if offset = 0x0C then s.notice.setWidth 32
  else if offset = 0x10 then s.route.setWidth 32
  else 0

end Sys2Proof.Machine
end

