-- ==== Sys2Proof/Machine/Operands.lean ====
section
/-! DEFINITION. What the host and the equipment hand the part, field by field: settings records (R2), PLU records (R50), key
codes; and the codes and texts the part writes (chapter 11). -/

namespace Sys2Proof.Machine

open Sys2Proof

/-! ### Codes of enumerated fields (chapter 11) -/

/-- Message codes of 11.3. -/
def Message.code : Message → Nat
  | .noPlu => 1
  | .motion => 2
  | .over => 3
  | .under => 4
  | .belowMin => 5
  | .noZero => 6
  | .zeroRange => 7
  | .tareLimit => 8
  | .tareSet => 9
  | .unstable => 10
  | .pending => 11
  | .noClerk => 12
  | .noOrder => 13
  | .orderBusy => 14
  | .ordersFull => 15
  | .orderFull => 16
  | .noItems => 17
  | .lineEmpty => 18
  | .noPrinter => 19
  | .journalFull => 20
  | .priceFault => 21
  | .priceLimit => 22
  | .pluGone => 23
  | .noShow => 24
  | .dayClosed => 25
  | .closing => 26
  | .notAllowed => 27

/-- Message texts, as ASCII bytes (00_scope.md, section 5: messages are displayed as written). -/
def Message.text : Message → List Byte
  | .noPlu => [78, 79, 32, 80, 76, 85]  -- NO PLU
  | .motion => [77, 79, 84, 73, 79, 78]  -- MOTION
  | .over => [79, 86, 69, 82]  -- OVER
  | .under => [85, 78, 68, 69, 82]  -- UNDER
  | .belowMin => [66, 69, 76, 79, 87, 32, 77, 73, 78]  -- BELOW MIN
  | .noZero => [78, 79, 32, 90, 69, 82, 79]  -- NO ZERO
  | .zeroRange => [90, 69, 82, 79, 32, 82, 65, 78, 71, 69]  -- ZERO RANGE
  | .tareLimit => [84, 65, 82, 69, 32, 76, 73, 77, 73, 84]  -- TARE LIMIT
  | .tareSet => [84, 65, 82, 69, 32, 83, 69, 84]  -- TARE SET
  | .unstable => [85, 78, 83, 84, 65, 66, 76, 69]  -- UNSTABLE
  | .pending => [80, 69, 78, 68, 73, 78, 71]  -- PENDING
  | .noClerk => [78, 79, 32, 67, 76, 69, 82, 75]  -- NO CLERK
  | .noOrder => [78, 79, 32, 79, 82, 68, 69, 82]  -- NO ORDER
  | .orderBusy => [79, 82, 68, 69, 82, 32, 66, 85, 83, 89]  -- ORDER BUSY
  | .ordersFull => [79, 82, 68, 69, 82, 83, 32, 70, 85, 76, 76]  -- ORDERS FULL
  | .orderFull => [79, 82, 68, 69, 82, 32, 70, 85, 76, 76]  -- ORDER FULL
  | .noItems => [78, 79, 32, 73, 84, 69, 77, 83]  -- NO ITEMS
  | .lineEmpty => [76, 73, 78, 69, 32, 69, 77, 80, 84, 89]  -- LINE EMPTY
  | .noPrinter => [78, 79, 32, 80, 82, 73, 78, 84, 69, 82]  -- NO PRINTER
  | .journalFull => [74, 79, 85, 82, 78, 65, 76, 32, 70, 85, 76, 76]  -- JOURNAL FULL
  | .priceFault => [80, 82, 73, 67, 69, 32, 70, 65, 85, 76, 84]  -- PRICE FAULT
  | .priceLimit => [80, 82, 73, 67, 69, 32, 76, 73, 77, 73, 84]  -- PRICE LIMIT
  | .pluGone => [80, 76, 85, 32, 71, 79, 78, 69]  -- PLU GONE
  | .noShow => [78, 79, 32, 83, 72, 79, 87]  -- NO SHOW
  | .dayClosed => [68, 65, 89, 32, 67, 76, 79, 83, 69, 68]  -- DAY CLOSED
  | .closing => [67, 76, 79, 83, 73, 78, 71]  -- CLOSING
  | .notAllowed => [78, 79, 84, 32, 65, 76, 76, 79, 87, 69, 68]  -- NOT ALLOWED

/-- Codes of a message line: blank 0 (11.3). -/
def messageCode : Option Message → Nat
  | none => 0
  | some m => m.code

/-- Codes of the load status (11.3). -/
def LoadStatus.code : LoadStatus → Nat
  | .none => 0
  | .loaded => 1
  | .failed => 2

/-- Codes of the weight state (11.3). -/
def WeightState.code : WeightState → Nat
  | .none => 0
  | .zeroing => 1
  | .motion => 2
  | .stable => 3
  | .over => 4
  | .under => 5

/-- Codes of the tare kind (11.3). -/
def TareKind.code : TareKind → Nat
  | .none => 0
  | .keyed => 1
  | .preset => 2

/-- Codes of the mode (11.3, and RUN of 11.7). -/
def Mode.code : Mode → Nat
  | .normal => 0
  | .runArmed => 1
  | .runDisarmed => 2

/-- Codes of the pending action (11.3). -/
def PendingAction.code : PendingAction → Nat
  | .none => 0
  | .print => 1
  | .tare => 2

/-- Codes of the PLU kind (11.4). -/
def PluKind.code : PluKind → Nat
  | .weighed => 0
  | .counted => 1
  | .fixed => 2

/-- Codes of a bank; none is 255 (11.4). -/
def bankCode : Option Bank → Nat
  | some .a => 0
  | some .b => 1
  | none => 255

/-- Codes of a lane (11.4). -/
def Lane.code : Lane → Nat
  | .urgent => 0
  | .routine => 1

/-- Codes of the link state (11.3). -/
def LinkState.code : LinkState → Nat
  | .down => 0
  | .up => 1
  | .mismatch => 2

/-- Codes of the equipment class (11.7). -/
def EquipClass.code : EquipClass → Nat
  | .scaleHead => 1
  | .printer => 2
  | .dispenser => 3
  | .display => 4

/-- Codes of the printer state (11.3). -/
def PrinterState.code : PrinterState → Nat
  | .down => 0
  | .ready => 1
  | .busy => 2
  | .stopped => 3

/-- Codes of a stop reason; none is 0 (11.3, 11.4). -/
def stopCode : Option StopReason → Nat
  | none => 0
  | some .paperOut => 1
  | some .headOpen => 2
  | some .jam => 3
  | some .noResponse => 4

/-- Codes of the label kind (11.7). -/
def LabelKind.code : LabelKind → Nat
  | .item => 0
  | .total => 1
  | .reprint => 2

/-- Codes of the ticket source (11.4). -/
def TicketSource.code : TicketSource → Nat
  | .dispenser => 0
  | .host => 1

/-- Codes of the order source (11.3). -/
def OrderSource.code : OrderSource → Nat
  | .line => 0
  | .host => 1

/-- Codes of the order state (11.3). -/
def OrderState.code : OrderState → Nat
  | .called => 0
  | .opened => 1
  | .parked => 2

/-- Codes of an outcome (R168, 11.3). -/
def OutcomeCode.code : OutcomeCode → Nat
  | .done => 0
  | .started => 1
  | .unknownKind => 2
  | .badParam => 3
  | .wrongState => 4
  | .busy => 5
  | .notFound => 6
  | .full => 7
  | .calLocked => 8
  | .tooLate => 9
  | .priceFault => 10
  | .journalFull => 11
  | .cancelled => 13

/-- Codes of a bank reason (11.3). -/
def BankReason.code : BankReason → Nat
  | .count => 1
  | .crc => 2
  | .order => 3
  | .field => 4

/-- Codes of a void cause (11.4). -/
def VoidCause.code : VoidCause → Nat
  | .request => 0
  | .close => 1
  | .total => 2

/-- Codes of a lapse cause (11.4). -/
def LapseCause.code : LapseCause → Nat
  | .skipLimit => 1
  | .lineFull => 2
  | .dropped => 3
  | .close => 4

/-- Codes of a STATION_EVENT reason (11.4). -/
def StationReason.code : StationReason → Nat
  | .settingsCrc => 1
  | .settingsField => 2
  | .layout => 3
  | .mismatch => 4

/-- Codes of a printer event (11.4). -/
def PrinterEvent.code : PrinterEvent → Nat
  | .fault => 1
  | .noResponse => 2
  | .linkDown => 3
  | .mismatch => 4

/-- Codes of a REFUSE reason (11.7). -/
def RefuseReason.code : RefuseReason → Nat
  | .full => 0
  | .closed => 1

/-- The reason a FAULT frame's code names; a code outside the three is JAM (R89). -/
def faultReason (code : Byte) : StopReason :=
  if code = 1 then .paperOut else if code = 2 then .headOpen else .jam

/-! ### Keys (11.7) -/

/-- The keys of a scale head. -/
inductive Key where
  | digit (d : Fin 10)
  | clear | plu | zero | tare | print | clerk | next | recall | skip | order | park | total | void | repeatKey | run
  deriving DecidableEq, Repr

/-- The key of a code; a code outside 0 to 24 names none (R180, 11.7). -/
def keyOfCode (code : Nat) : Option Key :=
  if h : code < 10 then some (.digit ⟨code, h⟩)
  else match code with
    | 10 => some .clear
    | 11 => some .plu
    | 12 => some .zero
    | 13 => some .tare
    | 14 => some .print
    | 15 => some .clerk
    | 16 => some .next
    | 17 => some .recall
    | 18 => some .skip
    | 19 => some .order
    | 20 => some .park
    | 21 => some .total
    | 22 => some .void
    | 23 => some .repeatKey
    | 24 => some .run
    | _ => none

/-- The value of an entry buffer: the decimal number of its digits; an empty buffer has none (R28). -/
def bufferValue (digits : List (Fin 10)) : Option Nat :=
  if digits = [] then none else some (digits.foldl (fun n d => 10 * n + d.val) 0)

/-! ### Station settings records (R2, 11.5) -/

/-- A settings record as it stands in counter memory. -/
structure RawSettings where
  enabled : Nat
  flags : Nat
  preferred : Nat
  alternate : Nat
  capacity : Nat
  range1Max : Nat
  d1 : Nat
  d2 : Nat
  calZero : Int
  spanNum : Nat
  spanDen : Nat
  filterLen : Nat
  motionBand : Nat
  stableCount : Nat
  printWait : Nat
  linkTimeout : Nat
  crcGood : Bool
  deriving DecidableEq, Repr

/-- The record at offset `a` (11.5). DESIGN CHOICE: `filter_len`, whose width 11.5 does not give, is the byte 28; byte 29 is not read
(log 43). -/
def readSettings (m : Memory) (a : Nat) : RawSettings :=
  { enabled := m.num a 1, flags := m.num (a + 1) 1, preferred := m.num (a + 2) 1, alternate := m.num (a + 3) 1,
    capacity := m.num (a + 4) 4, range1Max := m.num (a + 8) 4, d1 := m.num (a + 12) 4, d2 := m.num (a + 16) 4,
    calZero := (BitVec.ofNat 32 (m.num (a + 20) 4)).toInt, spanNum := m.num (a + 24) 2, spanDen := m.num (a + 26) 2,
    filterLen := m.num (a + 28) 1, motionBand := m.num (a + 30) 2, stableCount := m.num (a + 32) 2,
    printWait := m.num (a + 34) 2, linkTimeout := m.num (a + 36) 2,
    crcGood := (crc16 (m.bytes a 62)).toNat == m.num (a + 62) 2 }

/-- The values of `d1_mg` and `d2_mg` (R2). -/
def divisionValues : List Nat := [1000, 2000, 5000, 10000, 20000, 50000]

/-- The division of the upper range in use (R6). -/
def upperDivision (range1Max d1 d2 : Nat) : Nat := if range1Max ≠ 0 then d2 else d1

/-- Check number `n` of R2's table on a record. -/
def RawSettings.fieldGood (r : RawSettings) : Nat → Bool
  | 1 => decide (r.enabled ≤ 1)
  | 2 => decide (1000000 ≤ r.capacity ∧ r.capacity ≤ 60000000 ∧
      r.capacity % upperDivision r.range1Max r.d1 r.d2 = 0)
  | 3 => decide (r.range1Max = 0 ∨ (r.range1Max % r.d1 = 0 ∧ r.range1Max < r.capacity))
  | 4 => divisionValues.contains r.d1
  | 5 => divisionValues.contains r.d2 && (if r.range1Max ≠ 0 then decide (r.d1 < r.d2) else decide (r.d2 = r.d1))
  | 6 => decide (-8388608 ≤ r.calZero ∧ r.calZero ≤ 8388607)
  | 7 => decide (1 ≤ r.spanNum ∧ r.spanNum ≤ 65535)
  | 8 => decide (1 ≤ r.spanDen ∧ r.spanDen ≤ 65535)
  | 9 => [1, 2, 4, 8, 16].contains r.filterLen
  | 10 => decide (1 ≤ r.motionBand ∧ r.motionBand ≤ 4095)
  | 11 => decide (2 ≤ r.stableCount ∧ r.stableCount ≤ 64)
  | 12 => decide (1 ≤ r.printWait ∧ r.printWait ≤ 1000)
  | 13 => decide (50 ≤ r.linkTimeout ∧ r.linkTimeout ≤ 2000)
  | 14 => decide (r.preferred ≤ 1)
  | 15 => decide ((r.alternate ≤ 1 ∨ r.alternate = 255) ∧ r.alternate ≠ r.preferred)
  | 16 => decide (r.flags < 16)
  | _ => true

/-- The order in which the fields are reported: fields 3 to 5 before field 2, whose check uses them (R2, log 34). -/
def settingsOrder : List Nat := [1, 3, 4, 5, 2, 6, 7, 8, 9, 10, 11, 12, 13, 14, 15, 16]

/-- The first failing field of a record, if any (R2). -/
def RawSettings.firstBad (r : RawSettings) : Option Nat := settingsOrder.find? (fun n => !r.fieldGood n)

/-- The settings a valid record holds. -/
def RawSettings.toSettings (r : RawSettings) : Settings :=
  { enabled := r.enabled == 1,
    cal := { capacity := r.capacity, range1Max := r.range1Max, d1 := r.d1, d2 := r.d2, calZero := r.calZero,
             spanNum := r.spanNum, spanDen := r.spanDen },
    filterLen := r.filterLen, motionBand := r.motionBand, stableCount := r.stableCount, printWait := r.printWait,
    linkTimeout := r.linkTimeout, preferred := if r.preferred = 1 then 1 else 0,
    alternate := if r.alternate = 0 then some 0 else if r.alternate = 1 then some 1 else none,
    looseAllowed := r.flags.testBit 0, repeatAllowed := r.flags.testBit 1, runAllowed := r.flags.testBit 2,
    zeroTracking := r.flags.testBit 3 }

/-- The outcome of checking a record: its settings, or the reason and the number of the first failing field, 0 for the CRC
(R2, R3). DESIGN CHOICE: a record whose CRC and a field both fail is reported with SETTINGS_CRC, as R2 to R4 give no order between
the two (log 39). -/
def checkSettings (r : RawSettings) : Except (StationReason × Nat) Settings :=
  if r.crcGood then
    match r.firstBad with
    | some n => .error (.settingsField, n)
    | none => .ok r.toSettings
  else .error (.settingsCrc, 0)

/-! ### Quantities of a channel (R6) -/

/-- d_top (R6). -/
def Calibration.dTop (c : Calibration) : Nat := upperDivision c.range1Max c.d1 c.d2

/-- The overload limit in mg (R6). -/
def Calibration.overload (c : Calibration) : Int := c.capacity + 9 * c.dTop

/-- The underload limit in mg (R6). -/
def Calibration.underload (c : Calibration) : Int := -(20 * (c.d1 : Int))

/-- The minimum weight in mg (R6). -/
def Calibration.minimum (c : Calibration) : Int := 20 * c.d1

/-- The tare limit in mg (R6). -/
def Calibration.tareLimit (c : Calibration) : Int := if c.range1Max ≠ 0 then c.range1Max else c.capacity

/-- The gross lies in the zero band: |gross| < d1 ÷ 2 (R6). -/
def Calibration.inZeroBand (c : Calibration) (gross : Int) : Bool := decide (2 * |gross| < c.d1)

/-- The gross lies in the zero indicator band: |gross| ≤ d1 ÷ 4 (R6). -/
def Calibration.inIndicatorBand (c : Calibration) (gross : Int) : Bool := decide (4 * |gross| ≤ c.d1)

/-- The offset-0 gross lies in the initial zero range: |gross| ≤ capacity ÷ 10 (R6). -/
def Calibration.inInitialRange (c : Calibration) (gross : Int) : Bool := decide (10 * |gross| ≤ c.capacity)

/-- A zero offset keeps the zero range measured from the initial offset, by cross multiplication (R6). -/
def Calibration.inZeroRange (c : Calibration) (offset initial : Int) : Bool :=
  decide (|(offset - initial) * c.spanNum| * 25 ≤ (c.capacity : Int) * c.spanDen)

/-! ### PLU records (R50, 11.5) -/

/-- A PLU record as it stands in counter memory. -/
structure RawPlu where
  plu : Nat
  kind : Nat
  department : Nat
  layout : Nat
  flags : Nat
  unitPrice : Nat
  fixedTare : Nat
  shelfLife : Nat
  markdown : Nat
  name : List Byte
  deriving DecidableEq, Repr

/-- Bytes of a PLU record (3.2). -/
def pluSize : Nat := 48

/-- The record at offset `a` (11.5). DESIGN CHOICE: `markdown_pct`, whose width 11.5 does not give, is the byte 18; byte 19 is not read
(log 43). -/
def readPlu (m : Memory) (a : Nat) : RawPlu :=
  { plu := m.num a 4, kind := m.num (a + 4) 1, department := m.num (a + 5) 1, layout := m.num (a + 6) 1,
    flags := m.num (a + 7) 1, unitPrice := m.num (a + 8) 4, fixedTare := m.num (a + 12) 4,
    shelfLife := m.num (a + 16) 2, markdown := m.num (a + 18) 1, name := m.bytes (a + 20) 24 }

/-- A printable character, 0x20 to 0x7E. -/
def printable (b : Byte) : Bool := decide (0x20 ≤ b.toNat ∧ b.toNat ≤ 0x7E)

/-- Check number `n` of R50's table on a record. -/
def RawPlu.fieldGood (r : RawPlu) : Nat → Bool
  | 1 => decide (1 ≤ r.plu ∧ r.plu ≤ 999999)
  | 2 => decide (r.kind ≤ 2)
  | 3 => decide (r.department ≤ 15)
  | 4 => decide (r.layout ≤ 7)
  | 5 => decide (r.flags ≤ 1)
  | 6 => decide (1 ≤ r.unitPrice ∧ r.unitPrice ≤ 999999)
  | 7 => decide (r.fixedTare ≤ 10000000 ∧ r.fixedTare % 1000 = 0)
  | 8 => decide (r.shelfLife ≤ 365)
  | 9 => decide (r.markdown ≤ 90)
  | 10 => r.name.all printable
  | _ => true

/-- The first failing field of a record, if any (R50). -/
def RawPlu.firstBad (r : RawPlu) : Option Nat := [1, 2, 3, 4, 5, 6, 7, 8, 9, 10].find? (fun n => !r.fieldGood n)

/-- The record of a valid raw record. -/
def RawPlu.toRecord (r : RawPlu) : PluRecord :=
  { plu := r.plu, kind := if r.kind = 0 then .weighed else if r.kind = 1 then .counted else .fixed,
    department := Fin.ofNat 16 r.department, layout := Fin.ofNat 8 r.layout, repeatDefault := r.flags == 1,
    unitPrice := r.unitPrice, fixedTare := r.fixedTare, shelfLife := r.shelfLife, markdown := r.markdown,
    name := r.name }

end Sys2Proof.Machine
end

