-- ==== Sys2Proof/Machine/Journal.lean ====
section
/-! DEFINITION. The Journal Writer: record layouts (11.4), room by class (R169), writing (R170), the hold (R171), and
the places work in flight holds there (R167). -/

namespace Sys2Proof.Machine

open Sys2Proof

/-! ### Record layouts (11.4) -/

/-- The kind byte of a record. -/
def RecordBody.kind : RecordBody → Nat
  | .item .. => 1
  | .orderEnd .. => 2
  | .orderVoid .. => 3
  | .dayOpen .. => 4
  | .dayClose .. => 5
  | .priceSwitch .. => 6
  | .opDone .. => 7
  | .stationEvent .. => 8
  | .printerEvent .. => 9
  | .ticketLapsed .. => 10

/-- The class byte of a record: S 0, C 1, I 2. -/
def RecordBody.class : RecordBody → Nat
  | .item .. | .orderEnd .. | .orderVoid .. => 0
  | .dayOpen .. | .dayClose .. | .priceSwitch .. | .opDone .. => 1
  | .stationEvent .. | .printerEvent .. | .ticketLapsed .. => 2

/-- The bytes of a record from offset 16 on. -/
def RecordBody.bytes : RecordBody → List Byte
  | .item orderNumber ticket i =>
    field 2 orderNumber ++ field 1 ticket ++ field 1 i.number ++ field 4 i.plu ++ field 1 i.kind.code
      ++ field 1 i.department.val ++ field 1 i.station.val ++ field 1 (clerkNumber i.clerk) ++ field 4 i.epoch
      ++ field 4 i.net ++ field 4 i.count ++ field 4 i.tare ++ field 4 i.unitPrice ++ field 4 i.amount
      ++ field 4 i.serial ++ field 4 i.pricedAt.seconds ++ field 4 i.markdown
  | .orderEnd orderNumber ticket source clerk station items voided total opened serial =>
    field 2 orderNumber ++ field 1 ticket ++ field 1 source.code ++ field 1 (clerkNumber clerk)
      ++ field 1 station.val ++ field 1 items ++ field 1 voided ++ field 4 total ++ field 4 opened ++ field 4 serial
  | .orderVoid orderNumber ticket source clerk state items cause amount =>
    field 2 orderNumber ++ field 1 ticket ++ field 1 source.code ++ field 1 (clerkNumber clerk)
      ++ field 1 state.code ++ field 1 items ++ field 1 cause.code ++ field 4 amount
  | .dayOpen openedAt bank epoch count =>
    field 4 openedAt.seconds ++ field 4 (bankCode bank) ++ field 4 epoch ++ field 4 count
  | .dayClose openedAt completedAt forced epoch area g =>
    field 4 openedAt.seconds ++ field 4 completedAt.seconds ++ field 4 forced.toNat ++ field 4 epoch ++ field 4 area
      ++ field 2 g.ordersFinished ++ zeros 2 ++ field 2 g.ordersVoided ++ zeros 2 ++ field 2 g.itemsSold ++ zeros 2
      ++ field 2 g.looseItems ++ zeros 2 ++ field 2 g.ticketsLapsed ++ zeros 2 ++ field 8 g.amount
  | .priceSwitch oldBank newBank count crc epoch =>
    field 1 (bankCode oldBank) ++ field 1 (bankCode (some newBank)) ++ zeros 2 ++ field 4 count ++ field 4 crc.toNat
      ++ field 4 epoch
  | .opDone request kind outcome failure =>
    field 1 request.lane.code ++ field 1 kind ++ field 2 request.number.toNat ++ field 1 outcome.code
      ++ (match failure with
          | none => zeros 4
          | some f => field 1 f.reason.code ++ field 1 f.field ++ zeros 1 ++ field 2 f.index)
  | .stationEvent reason station fieldNo check entry expected heard =>
    field 1 reason.code ++ field 1 (match station with
                                    | none => 255
                                    | some st => st.val)
      ++ field 1 fieldNo ++ field 1 check ++ field 1 entry ++ field 1 expected ++ field 1 heard
  | .printerEvent link event reason serial queue =>
    field 1 link.val ++ field 1 event.code ++ field 1 (stopCode reason) ++ field 1 queue ++ field 4 serial
  | .ticketLapsed e cause =>
    field 1 e.ticket ++ field 1 e.source.code ++ field 1 e.skips ++ field 1 cause.code ++ field 4 e.issued

/-- The 64 bytes of a record: its head with kind, class, sequence number and stamp, then the body. -/
def RecordBody.encode (r : RecordBody) (seq : Word) (stamp : Stamp) : List Byte :=
  padTo 64 (field 1 r.kind ++ field 1 r.class ++ zeros 2 ++ field 4 seq.toNat ++ field 4 stamp.seconds ++ zeros 4
    ++ r.bytes)

/-! ### Room and writing -/

/-- Offset of the `written` word (11.2). -/
def offsetWritten : Nat := 72

/-- Offset of the `collected` word (11.2). -/
def offsetCollected : Nat := 76

/-- Records in use: written − collected, modulo 2^32 (R169). -/
def JW.used (s : State) : Nat := (s.jw.written - BitVec.ofNat 32 (MP.read s offsetCollected 4)).toNat

/-- The host's `collected` is consistent with `written` (R169). -/
def JW.consistent (s : State) : Bool := decide (JW.used s ≤ s.jw.capacity)

/-- The free room: capacity − (written − collected); 0 while the counts are inconsistent, written − collected then exceeding
the capacity (R169). -/
def JW.free (s : State) : Nat := s.jw.capacity - JW.used s

/-- A room check: the journal fault bit follows the consistency of the counts; the FAULT flag is set when the bit was clear
(R169). -/
def JW.check (s : State) : State :=
  if JW.consistent s then { s with jw := { s.jw with fault := false } }
  else if s.jw.fault then s
  else NU.set .fault { s with jw := { s.jw with fault := true } }

/-- The sequence number after `n`: 4,294,967,295 is followed by 1 (R170). -/
def JW.nextSeq (n : Word) : Word := if n = 0xFFFFFFFF#32 then 1 else n + 1

/-- Where the record that `written` names lies (9.6). -/
def JW.place (s : State) : Nat := s.jw.base + 64 * (s.jw.written.toNat % s.jw.capacity)

/-- One record is written: numbered, stamped, placed, counted and flagged (R170). -/
def JW.write (r : RecordBody) (s : State) : State :=
  let bytes := r.encode s.jw.seq s.dt.clock
  let s1 := MP.write (JW.place s) bytes s
  let s2 := { s1 with jw := { s1.jw with seq := JW.nextSeq s1.jw.seq, written := s1.jw.written + 1 } }
  let s3 := NU.set .journal (MP.write offsetWritten (field 4 s2.jw.written.toNat) s2)
  if JW.free s3 ≤ s3.jw.highMark then NU.set .journalHigh s3 else s3

/-- Records are written one after another (R170). -/
def JW.writeAll : List RecordBody → State → State
  | [], s => s
  | r :: rs, s => JW.writeAll rs (JW.write r s)

/-- Held records `rs` are written, oldest first, while one is free; the rest stay held (R171). DESIGN CHOICE: each look at the free room made
here for a held record is a room check (R169); with an empty hold there is none, so step 1 of a sweep then leaves the journal fault bit
as it is (log 14). -/
def JW.flushList : List RecordBody → State → State
  | [], s => { s with jw := { s.jw with hold := [] } }
  | r :: rs, s =>
    let s1 := JW.check s
    if 1 ≤ JW.free s1 then JW.flushList rs (JW.write r s1) else { s1 with jw := { s1.jw with hold := r :: rs } }

/-- Held records are written while the journal has a free record (R171). -/
def JW.flush (s : State) : State := JW.flushList s.jw.hold s

/-- What every room question and every offer begins with: held records first, then the room check (R169). -/
def JW.ask (s : State) : State := JW.check (JW.flush s)

/-- Class S room for a group of `n` records, after `JW.ask`: n + 4 free (R169). -/
def JW.roomFor (n : Nat) (s : State) : Bool := decide (n + 4 ≤ JW.free s)

/-- A class C record is offered: written with one free and an empty hold, held otherwise (R169, R171). -/
def JW.offerC (r : RecordBody) (s : State) : State :=
  let s1 := JW.ask s
  if 1 ≤ JW.free s1 ∧ s1.jw.hold = [] then JW.write r s1
  else { s1 with jw := { s1.jw with hold := s1.jw.hold ++ [r] } }

/-- A class I record is offered: written with five free, dropped otherwise (R169). -/
def JW.offerI (r : RecordBody) (s : State) : State :=
  let s1 := JW.ask s
  if 5 ≤ JW.free s1 then JW.write r s1 else s1

/-! ### The hold reservation (R167) -/

/-- Places in the hold that the running job and the close in flight hold (R167). -/
def JW.placesInFlight (s : State) : Nat :=
  (match s.pu.job with
   | none => 0
   | some j => match j.type with
     | .switch => 2
     | .check => 1)
  + (if s.dt.close.isSome then 2 else 0)

/-- A request that would hold `n` places is admitted (R167). -/
def JW.reservationMet (n : Nat) (s : State) : Bool := decide (s.jw.hold.length + JW.placesInFlight s + n ≤ 4)

end Sys2Proof.Machine
end

