-- ==== Sys2Proof/Machine/Links.lean ====
section
/-! DEFINITION. The Link Controller below the owners: frame layouts (R175, 11.7), the receiver (R175), the outgoing lists (R176),
and the silence timers (R178). -/

namespace Sys2Proof.Machine

open Sys2Proof

/-! ### Frames on the line -/

/-- The frame kind codes (11.7). -/
def Frame.kind : Frame → Nat
  | .welcome .. => 0x03
  | .display .. => 0x12
  | .job .. => 0x20
  | .printTicket .. => 0x32
  | .refuse .. => 0x33
  | .call .. => 0x40
  | .list .. => 0x41

/-- An amount of a DISPLAY frame; blank is 0xFFFFFFFF (11.7). -/
def displayAmount : Option Nat → List Byte
  | none => field 4 0xFFFFFFFF
  | some n => field 4 n

/-- The payload of a DISPLAY frame (R45, 11.7). With no echo the echo byte is 0 (log 27). -/
def DisplayContent.payload (c : DisplayContent) : List Byte :=
  c.weightText
    ++ field 1 (c.zeroLit.toNat + 2 * c.netLit.toNat + 4 * c.stableLit.toNat + 8 * c.repeatLit.toNat
        + 16 * c.echo.isSome.toNat)
    ++ field 1 (match c.range with
                | none => 0
                | some .one => 1
                | some .two => 2)
    ++ field 1 c.run.code ++ displayAmount c.unitPrice ++ displayAmount c.liveAmount
    ++ (match c.message with
        | none => List.replicate 12 0x20
        | some m => (m.text ++ List.replicate 12 0x20).take 12)
    ++ field 1 c.clerk ++ field 1 c.ticket ++ [c.echo.getD 0]

/-- The payload of a frame (11.7). -/
def Frame.payload : Frame → List Byte
  | .welcome link expected accepted =>
    field 1 link.val ++ field 1 expected.code ++ field 1 (if accepted then 0 else 1)
  | .display content => content.payload
  | .job serial kind reprintCount lineCount width firstLine lines =>
    field 4 serial ++ field 1 kind.code ++ field 1 reprintCount ++ field 1 lineCount ++ field 1 width
      ++ field 1 firstLine ++ field 1 lines.length ++ lines.flatten
  | .printTicket ticket issued => field 1 ticket ++ field 4 issued
  | .refuse reason => field 1 reason.code
  | .call ticket tone level envelope => field 1 ticket ++ field 1 tone ++ field 1 level ++ field 1 envelope.toNat
  | .list tickets => padTo 5 (field 1 tickets.length ++ tickets.flatMap (field 1))

/-- A frame as a run of bytes: SYNC, LENGTH, KIND, payload, CRC high byte first (R175). -/
def frameBytes (kind : Byte) (payload : List Byte) : List Byte :=
  let body := BitVec.ofNat 8 payload.length :: kind :: payload
  let crc := crc16 body
  0xA5 :: body ++ [(crc >>> 8).setWidth 8, crc.setWidth 8]

/-- The bytes the part sends for a frame (R175, R176). -/
def Frame.bytes (f : Frame) : List Byte := frameBytes (BitVec.ofNat 8 f.kind) f.payload

/-! ### The receiver (R175) -/

/-- What the receiver finds at the head of the bytes it has collected. -/
inductive Received where
  /-- HUNTING, or the frame is not whole yet. -/
  | wait
  /-- The head is no SYNC, or the frame it starts is bad: the search goes on from the byte after it. -/
  | discard
  /-- A good frame of `length` bytes. -/
  | good (kind : Byte) (payload : List Byte) (length : Nat)
  deriving DecidableEq, Repr

/-- The receiver's four steps on the collected bytes (R175): SYNC, LENGTH 1 to 250, LENGTH + 4 bytes after the SYNC, CRC (log 16). -/
def examine : List Byte → Received
  | [] => .wait
  | sync :: rest =>
    if sync ≠ 0xA5 then .discard
    else match rest with
      | [] => .wait
      | len :: _ =>
        if len.toNat = 0 ∨ 250 < len.toNat then .discard
        else if rest.length < len.toNat + 4 then .wait
        else if crc16 (rest.take (len.toNat + 2))
            = ((rest.getD (len.toNat + 2) 0).setWidth 16 <<< 8) ||| (rest.getD (len.toNat + 3) 0).setWidth 16 then
          .good (rest.getD 1 0) ((rest.drop 2).take len.toNat) (len.toNat + 5)
        else .discard

/-- The receiver runs over collected bytes: the good frames it finds, in order, and the bytes still in collection (none is
HUNTING). `fuel` bounds the runs; each run but the last drops a byte at least. -/
def scan : Nat → List Byte → List (Byte × List Byte) × List Byte
  | 0, bytes => ([], bytes)
  | fuel + 1, bytes =>
    match examine bytes with
    | .wait => ([], bytes)
    | .discard => scan fuel bytes.tail
    | .good kind payload length =>
      let found := scan fuel (bytes.drop length)
      ((kind, payload) :: found.1, found.2)

/-- The receiver of a link takes bytes after those it holds (R175). -/
def receive (held bytes : List Byte) : List (Byte × List Byte) × List Byte :=
  scan ((held ++ bytes).length + 1) (held ++ bytes)

/-! ### Outgoing lists (R176) -/

/-- The class a link expects (chapter 10). -/
def expectedClass (l : LinkNo) : EquipClass :=
  if l.val < 8 then .scaleHead else if l.val < 10 then .printer else if l.val = 10 then .dispenser else .display

/-- The frame is a DISPLAY. -/
def Frame.isDisplay : Frame → Bool
  | .display _ => true
  | _ => false

/-- The frame is a LIST. -/
def Frame.isList : Frame → Bool
  | .list _ => true
  | _ => false

/-- The frame is a CALL. -/
def Frame.isCall : Frame → Bool
  | .call .. => true
  | _ => false

/-- The frame is an answer to a TAKE. -/
def Frame.isTakeAnswer : Frame → Bool
  | .printTicket .. => true
  | .refuse _ => true
  | _ => false

/-- The frame is a WELCOME. -/
def Frame.isWelcome : Frame → Bool
  | .welcome .. => true
  | _ => false

/-- The first frame that `p` names is replaced by `f`. -/
def replaceFirst (p : Frame → Bool) (f : Frame) : List Frame → List Frame
  | [] => []
  | g :: rest => if p g then f :: rest else g :: replaceFirst p f rest

/-- The outgoing list after `f` is handed, or `none` when R176 does not say which frame gives way. The head of a list is being
sent; the frames behind it wait (log 12). -/
def joinOutgoing (l : LinkNo) (f : Frame) (out : List Frame) : Option (List Frame) :=
  if f.isDisplay && out.tail.any Frame.isDisplay then some (out.take 1 ++ replaceFirst Frame.isDisplay f out.tail)
  else if out.length < Config.outgoingCapacity then some (out ++ [f])
  else if f.isTakeAnswer then some out
  else if l = displayLink ∧ out.tail.any Frame.isList then some (out.take 1 ++ out.tail.eraseP Frame.isList ++ [f])
  else if l = displayLink ∧ out.tail.any Frame.isCall then some (out.take 1 ++ out.tail.eraseP Frame.isCall ++ [f])
  else none

/-- A frame joins a link's outgoing list, whatever the link state (R176, log 13). -/
def LK.join (l : LinkNo) (f : Frame) (s : State) : State :=
  match joinOutgoing l f (s.link l).out with
  | some out => s.modLink l (fun k => { k with out := out })
  | none =>
    { s.modLink l (fun k => { k with
        out := if Config.ninthFrameJoins s.freeIndex then k.out.take 1 ++ k.out.drop 2 ++ [f] else k.out })
      with freeIndex := s.freeIndex + 1 }

/-- A block hands LK a frame: it joins while the link is UP (R176). -/
def LK.hand (l : LinkNo) (f : Frame) (s : State) : State := if s.linkUp l then LK.join l f s else s

/-- Frames are handed one after another. -/
def LK.handAll (l : LinkNo) (fs : List Frame) (s : State) : State := fs.foldl (fun s f => LK.hand l f s) s

/-! ### Silence timers (R178) -/

/-- The timeout of a link: the station's `link_timeout_ms`, 500 ms without a settings copy and for L8 to L11 (R178). -/
def LK.timeout (s : State) (l : LinkNo) : Nat :=
  if h : l.val < 8 then
    match (s.channel ⟨l.val, h⟩).settings with
    | some c => c.linkTimeout
    | none => 500
  else 500

/-- The silence timer starts, or starts again, with the timeout as it now stands (R178). -/
def LK.startSilence (l : LinkNo) (s : State) : State :=
  let t := LK.timeout s l
  s.modLink l (fun k => { k with silence := some t })

/-- A good frame has been received: the receiver hunts again, and the silence timer restarts when the link is UP or MISMATCH
(R175). -/
def LK.goodFrame (l : LinkNo) (s : State) : State :=
  let s1 := s.modLink l (fun k => { k with rx := [] })
  if (s.link l).state = .down then s1 else LK.startSilence l s1

end Sys2Proof.Machine
end

