-- ==== Sys2Proof/Machine/Weighing.lean ====
section
/-! DEFINITION. The Weighing Engine: what one channel does with its settings record (R5 to R8), a sample arrival (R9 to R16),
the ZERO key (R17, R18), the TARE key (R19) and the tare of a selected PLU (R22, R23). The functions are of one channel;
what they ask of SD stands in Dialogue.lean. -/

namespace Sys2Proof.Machine

open Sys2Proof

/-! ### Clear, link loss and disable (R7, R8) -/

/-- The channel clear (R7). -/
def WE.clear (c : Settings) (ch : Channel) : Channel :=
  { ch with
    ring := [], average := 0, stable := c.stableCount, zeroTried := false, zeroOffset := 0, initialOffset := 0,
    tareKind := .none, tare := 0, shown := none, range := none, zeroLit := false, netLit := false,
    state := .zeroing }

/-- The change to weight state NONE at a link loss or a disable (R8). -/
def WE.toNone (ch : Channel) : Channel :=
  { ch with state := .none, shown := none, range := none, zeroLit := false, netLit := false }

/-- A link-up, an enable, or a reload: an ENABLED channel with its link UP is cleared, any other is in NONE (R5, R7, R47). -/
def WE.restart (linkUp : Bool) (ch : Channel) : Channel :=
  match ch.settings with
  | some c => if ch.enabled && linkUp then WE.clear c ch else WE.toNone ch
  | none => WE.toNone ch

/-! ### The weight (R13 to R16) -/

/-- A weight in mg from a difference of counts, rounded (R12, R13). -/
def WE.convert (c : Calibration) (counts : Int) : Int := roundDiv (counts * c.spanNum) c.spanDen

/-- R15: the net, the range and the shown weight. -/
def WE.complete (c : Calibration) (ch : Channel) : Channel :=
  let net := ch.gross - ch.tare
  let one := decide (c.range1Max = 0 ∨ net ≤ c.range1Max ∨ net < 0)
  let d := if one then c.d1 else c.d2
  { ch with net := net, range := some (if one then .one else .two), shown := some (roundDiv net d * d) }

/-- R14: zero tracking, when its conditions hold. -/
def WE.track (c : Settings) (ch : Channel) : Channel :=
  let candidate := ch.average - c.cal.calZero
  if c.zeroTracking && ch.state == .stable && ch.tareKind == .none && c.cal.inZeroBand ch.gross
      && c.cal.inZeroRange candidate ch.initialOffset then
    { ch with zeroOffset := candidate, gross := WE.convert c.cal (ch.average - c.cal.calZero - candidate) }
  else ch

/-- R13 to R15 on the current average, `before` being the weight state before the event. -/
def WE.weigh (c : Settings) (before : WeightState) (ch : Channel) : Channel :=
  let g := WE.convert c.cal (ch.average - c.cal.calZero - ch.zeroOffset)
  if c.cal.overload < g then
    { ch with state := .over, gross := g, net := g - ch.tare, shown := none, range := none }
  else if g < c.cal.underload then
    { ch with state := .under, gross := g, net := g - ch.tare, shown := none, range := none }
  else if before = .over ∨ before = .under then
    WE.complete c.cal (WE.track c { ch with state := .motion, stable := c.stableCount, gross := g })
  else
    WE.complete c.cal (WE.track c { ch with state := if ch.stable = 0 then .stable else .motion, gross := g })

/-- R16: the ZERO and NET indicators. -/
def WE.indicate (c : Calibration) (ch : Channel) : Channel :=
  { ch with
    zeroLit := ch.state == .stable && c.inIndicatorBand ch.gross
    netLit := ch.tareKind != .none }

/-- A change of tare outside an arrival: R15 and R16 again on the current gross in MOTION and STABLE, the net of R13 in OVER and
UNDER; in ZEROING the tare is held, and in NONE nothing is made (1.6, R22). -/
def WE.retare (c : Calibration) (ch : Channel) : Channel :=
  match ch.state with
  | .motion | .stable => WE.indicate c (WE.complete c ch)
  | .over | .under => WE.indicate c { ch with net := ch.gross - ch.tare }
  | .zeroing | .none => ch

/-! ### The sample arrival (R9 to R12) -/

/-- R9: the raw count joins the ring, which keeps its newest `filter_len` counts. -/
def WE.joinRing (c : Settings) (raw : Int) (ring : List Int) : List Int :=
  (ring ++ [raw]).drop ((ring ++ [raw]).length - c.filterLen)

/-- R11: the stable counter after an arrival. -/
def WE.counter (c : Settings) (gap : Bool) (raw average : Int) (stable : Nat) : Nat :=
  if gap then c.stableCount
  else if (c.motionBand : Int) < |raw - average| then c.stableCount
  else stable - 1

/-- R12 and R17: the initial-zero check on the current average; `none` when it fails. -/
def WE.initialZero (c : Settings) (ch : Channel) : Option Channel :=
  let offset := ch.average - c.cal.calZero
  if c.cal.inInitialRange (WE.convert c.cal offset) then
    some (WE.weigh c .zeroing
      { ch with zeroTried := true, initialOffset := offset, zeroOffset := offset, state := .stable })
  else none

/-- R9 to R15 for an arrival in a state other than NONE, and whether the report carries NO ZERO. The indicators of R16 are set
after R21 has settled a pending tare. -/
def WE.arrive (c : Settings) (gap : Bool) (raw : Int) (ch : Channel) : Channel × Bool :=
  let ring := WE.joinRing c raw ch.ring
  let average := roundDiv ring.sum ring.length
  let ch1 := { ch with ring := ring, average := average, stable := WE.counter c gap raw average ch.stable }
  if ch.state = .zeroing then
    if ch1.stable = 0 ∧ ch1.zeroTried = false then
      match WE.initialZero c ch1 with
      | some ch2 => (ch2, false)
      | none => ({ ch1 with zeroTried := true }, true)
    else (ch1, false)
  else (WE.weigh c ch.state ch1, false)

/-! ### Keys (R17 to R20) -/

/-- What a key at the channel comes to. -/
inductive KeyOutcome where
  /-- The key is refused with a message; the channel is unchanged. -/
  | refused (m : Message)
  /-- The key is taken and changes nothing. -/
  | idle
  /-- The channel changes and hands a report. -/
  | changed (ch : Channel)
  /-- The retry of the initial zero fails: the report carries NO ZERO (R17). -/
  | noZero (ch : Channel)
  /-- A TARE key in MOTION becomes the pending tare (R20). -/
  | pend
  deriving DecidableEq, Repr

/-- R17 and R18: the ZERO key. -/
def WE.zeroKey (c : Settings) (ch : Channel) : KeyOutcome :=
  match ch.state with
  | .none => .refused .notAllowed
  | .zeroing =>
    if 0 < ch.stable then .refused .motion
    else match WE.initialZero c ch with
      | some ch1 => .changed (WE.indicate c.cal ch1)
      | none => .noZero { ch with zeroTried := true }
  | .motion => .refused .motion
  | .over => .refused .over
  | .under => .refused .under
  | .stable =>
    if ch.tareKind ≠ .none then .refused .tareSet
    else
      let candidate := ch.average - c.cal.calZero
      if c.cal.inZeroRange candidate ch.initialOffset then
        .changed (WE.indicate c.cal (WE.weigh c .stable { ch with zeroOffset := candidate }))
      else .refused .zeroRange

/-- R19: the TARE key in STABLE. -/
def WE.takeTare (c : Calibration) (ch : Channel) : KeyOutcome :=
  let keyed := roundDiv ch.gross c.d1 * c.d1
  if ch.tareKind ≠ .none ∧ c.inZeroBand ch.gross then
    .changed (WE.retare c { ch with tareKind := .none, tare := 0 })
  else if (c.d1 : Int) ≤ 2 * ch.gross then
    if c.tareLimit < keyed then .refused .tareLimit
    else .changed (WE.retare c { ch with tareKind := .keyed, tare := keyed })
  else if c.inZeroBand ch.gross then .idle
  else .refused .notAllowed

/-- R19 and R20: the TARE key, `pendingTare` telling whether a tare is pending at the station. -/
def WE.tareKey (c : Calibration) (pendingTare : Bool) (ch : Channel) : KeyOutcome :=
  match ch.state with
  | .none => .refused .notAllowed
  | .zeroing => .refused .noZero
  | .over => .refused .over
  | .under => .refused .under
  | .motion => if pendingTare then .idle else .pend
  | .stable => WE.takeTare c ch

/-! ### The tare of a PLU (R22, R23) -/

/-- R23: a PRESET tare is cleared. -/
def WE.clearPreset (ch : Channel) : Channel :=
  if ch.tareKind = .preset then
    let ch1 := { ch with tareKind := .none, tare := 0 }
    match ch.settings with
    | some c => WE.retare c.cal ch1
    | none => ch1
  else ch

/-- R22: the preset tare of a newly selected PLU, and whether the report carries TARE LIMIT. -/
def WE.preset (r : PluRecord) (ch : Channel) : Channel × Bool :=
  let ch1 := WE.clearPreset ch
  match ch1.settings with
  | none => (ch1, false)
  | some c =>
    if ch1.state = .none ∨ r.kind ≠ .weighed ∨ r.fixedTare = 0 ∨ ch1.tareKind = .keyed then (ch1, false)
    else
      let candidate := roundDiv r.fixedTare c.cal.d1 * c.cal.d1
      if c.cal.tareLimit < candidate then (ch1, true)
      else if candidate = 0 then (ch1, false)
      else (WE.retare c.cal { ch1 with tareKind := .preset, tare := candidate }, false)

/-! ### The report (R16, R24) -/

/-- The division d of the shown weight (R15, R16). -/
def WE.division (c : Calibration) (ch : Channel) : Nat :=
  match ch.range with
  | some .two => c.d2
  | _ => c.d1

end Sys2Proof.Machine
end

