-- ==== Sys2Proof/Machine/Stations.lean ====
section
/-! DEFINITION. The small changes of a dialogue channel that other blocks' reports make (R35, R41 to R43), each told to the
display (R46). -/

namespace Sys2Proof.Machine

open Sys2Proof

/-- The pending action ends: action NONE, budget 0, no destination (R35). -/
def Dialogue.cancelPending (d : Dialogue) : Dialogue :=
  { d with pendingAction := .none, pendingBudget := 0, pendingDest := none }

/-- A pending print ends; a pending tare stands (R35). -/
def Dialogue.cancelPrint (d : Dialogue) : Dialogue := if d.pendingAction = .print then d.cancelPending else d

/-- The station leaves RUN mode (R41). -/
def Dialogue.leaveRun (d : Dialogue) : Dialogue := { d with mode := .normal }

/-- The transient message becomes `m` (R26, R27). -/
def Dialogue.say (m : Message) (d : Dialogue) : Dialogue := { d with transient := some m }

/-- SD takes a report at a station: its dialogue changes, and its display is composed (R43, R46). -/
def SD.report (st : Station) (f : Dialogue → Dialogue) (s : State) : State := SD.tell st (s.modDialogue st f)

/-- SD takes a report at every station, in order. -/
def SD.reportAll (f : Dialogue → Dialogue) (s : State) : State := stations.foldl (fun s st => SD.report st f s) s

/-- A key is refused with a message (R26). -/
def SD.refuse (st : Station) (m : Message) (s : State) : State := s.modDialogue st (Dialogue.say m)

/-- The PLU is deselected and WE is told: R23 clears a PRESET tare. -/
def SD.deselect (st : Station) (s : State) : State :=
  (s.modDialogue st (fun d => { d with selection := none })).setChannel st (WE.clearPreset (s.channel st))

/-- The effect on a channel of a change of its clerk (R43). -/
def Dialogue.clerkChanged (d : Dialogue) : Dialogue := d.cancelPrint.leaveRun

/-- The effect on a channel when its clerk's order in slot `i` is voided (R43). -/
def Dialogue.orderVoided (i : SlotNo) (d : Dialogue) : Dialogue :=
  if d.pendingAction = .print then (if d.pendingDest = some (.slot i) then d.cancelPrint.say .noOrder else d)
  else d.say .noOrder

/-- The effect on a channel when its pending destination order in slot `i` is dissolved (R43). -/
def Dialogue.orderDissolved (i : SlotNo) (d : Dialogue) : Dialogue :=
  if d.pendingAction = .print ∧ d.pendingDest = some (.slot i) then d.cancelPrint else d

/-- The effect on a channel of the completion of a day close (R43). -/
def Dialogue.dayClosed (d : Dialogue) : Dialogue := d.cancelPending.leaveRun.say .dayClosed

/-- The effect on a channel of PRICE_FAULT becoming set (R42). -/
def Dialogue.priceFaultSet (d : Dialogue) : Dialogue :=
  if d.mode = .normal then d else d.leaveRun.say .priceFault

/-- The effect on a channel of a no-show (R27, R43). -/
def Dialogue.noShowReported (d : Dialogue) : Dialogue := { d with noShow := true }

end Sys2Proof.Machine
end

