-- ==== Sys2Proof/Machine/Pricing.lean ====
section
/-! DEFINITION. The Price Unit: lookup (R52), the check of a bank (R55, R56), PRICE_FAULT (R61), the start bank (R51), the
completions (R57, R58), the check at OPEN_DAY (R66), pricing (R62 to R64) and the live amount (R65). -/

namespace Sys2Proof.Machine

open Sys2Proof

/-! ### Banks -/

/-- The base of a bank (R154). -/
def PU.base (u : PriceUnit) : Bank → Nat
  | .a => u.bankA
  | .b => u.bankB

/-- Where record `i` of a bank at `base` lies, records counted from 1 (3.2). -/
def PU.place (base i : Nat) : Nat := base + pluSize * (i - 1)

/-- A bank's records end inside counter memory and number 1 to 1,200 (R52, R55). -/
def PU.countGood (base count : Nat) : Bool :=
  decide (1 ≤ count ∧ count ≤ 1200 ∧ base + count * pluSize ≤ Config.memorySize)

/-- Stage 3 of R55 over the `n` records from index `i` on, `before` being the PLU of the record before. -/
def PU.checkRecords (m : Memory) (base : Nat) : Nat → Nat → Option Nat → Option BankFailure
  | 0, _, _ => none
  | n + 1, i, before =>
    let r := readPlu m (PU.place base i)
    match r.firstBad with
    | some f => some { reason := .field, index := i, field := f }
    | none =>
      match before with
      | some p =>
        if r.plu ≤ p then some { reason := .order, index := i, field := 0 }
        else PU.checkRecords m base n (i + 1) (some r.plu)
      | none => PU.checkRecords m base n (i + 1) (some r.plu)

/-- The three stages of R55; `none` when all pass. -/
def PU.validate (m : Memory) (base count : Nat) (crc : Word) : Option BankFailure :=
  if PU.countGood base count = false then some { reason := .count, index := 0, field := 0 }
  else if crc32 (m.bytes base (count * pluSize)) ≠ crc then some { reason := .crc, index := 0, field := 0 }
  else PU.checkRecords m base count 1 none

/-! ### Lookup (R52) -/

/-- The answer of a lookup (R52). -/
inductive Lookup where
  | found (r : PluRecord)
  | absent
  | invalid
  deriving DecidableEq, Repr

/-- The binary search of R52 over indexes `lo` to `hi`; `fuel` bounds the record reads. -/
def PU.search (m : Memory) (base plu : Nat) : Nat → Nat → Nat → Option RawPlu
  | 0, _, _ => none
  | fuel + 1, lo, hi =>
    if hi < lo then none
    else
      let mid := (lo + hi) / 2
      let r := readPlu m (PU.place base mid)
      if r.plu = plu then some r
      else if r.plu < plu then PU.search m base plu fuel (mid + 1) hi
      else PU.search m base plu fuel lo (mid - 1)

/-- The lookup of a PLU number in the active bank (R52). At most 11 records are read; the twelfth round finds the range
empty. -/
def PU.lookup (m : Memory) (u : PriceUnit) (plu : Nat) : Lookup :=
  match u.active with
  | none => .absent
  | some bank =>
    if PU.countGood (PU.base u bank) u.count = false then .absent
    else match PU.search m (PU.base u bank) plu 12 1 u.count with
      | none => .absent
      | some r => if r.firstBad.isSome then .invalid else .found r.toRecord

/-! ### PRICE_FAULT (R61) -/

/-- A cause sets PRICE_FAULT: a change sets the PRICE flag and tells every SD channel (R42, R61). -/
def PU.setFault (s : State) : State :=
  if s.pu.fault then s
  else SD.reportAll Dialogue.priceFaultSet (NU.set .price { s with pu := { s.pu with fault := true } })

/-- PRICE_FAULT is cleared when it was set: the change sets the PRICE flag, no station is told (R61). -/
def PU.clearFault (s : State) : State :=
  if s.pu.fault then NU.set .price { s with pu := { s.pu with fault := false } } else s

/-- A lookup as one event at PU: a record found invalid sets PRICE_FAULT (R52). -/
def PU.find (plu : Nat) (s : State) : State × Lookup :=
  match PU.lookup s.mem s.pu plu with
  | .invalid => (PU.setFault s, .invalid)
  | answer => (s, answer)

/-- The check of the active bank against the recorded values, made whole: PRICE_FAULT follows its outcome (R51, R66). -/
def PU.checkActive (s : State) : State × Option BankFailure :=
  match s.pu.active with
  | none => (PU.setFault s, some { reason := .count, index := 0, field := 0 })
  | some bank =>
    match PU.validate s.mem (PU.base s.pu bank) s.pu.count s.pu.crc with
    | none => (PU.clearFault s, none)
    | some f => (PU.setFault s, some f)

/-- The start bank is made active and checked; the epoch becomes 1 (R51). -/
def PU.start (startBank count : Nat) (crc : Word) (s : State) : State :=
  if startBank = 0 ∨ startBank = 1 then
    (PU.checkActive { s with pu := { s.pu with
      active := some (if startBank = 0 then .a else .b), count := count, crc := crc, epoch := 1 } }).1
  else PU.setFault { s with pu := { s.pu with active := none, count := 0, crc := 0, epoch := 1 } }

/-! ### Completions (R57, R58) -/

/-- The epoch after a successful switch; 4,294,967,295 stays (R60). -/
def PU.nextEpoch (epoch : Nat) : Nat := min (epoch + 1) 4294967295

/-- The identification a completion reports; a running job always has one (R53, R54). -/
def PU.request (u : PriceUnit) : RequestId := u.jobRequest.getD { lane := .urgent, number := 0 }

/-- The job becomes IDLE (R57, R58). -/
def PU.idle (s : State) : State := { s with pu := { s.pu with job := none, jobRequest := none } }

/-- A SWITCH job that passes its stages (R57). DESIGN CHOICE: each channel holds one mark of having been told, so a switch that completes
before a channel has made its re-lookup of an earlier one leaves it one re-lookup to make (log 42). -/
def PU.switch (j : PriceJob) (s : State) : State :=
  let request := PU.request s.pu
  let s1 := { s with pu := { s.pu with
    active := some j.bank, count := j.count, crc := j.crc, epoch := PU.nextEpoch s.pu.epoch } }
  let s2 := PU.clearFault s1
  let s3 := JW.offerC (.priceSwitch s.pu.active j.bank j.count j.crc s2.pu.epoch) s2
  let s4 := NU.set .price (JW.offerC (.opDone request 6 .done none) s3)
  PU.idle (stations.foldl (fun s st => s.modDialogue st (fun d => { d with relookup := true })) s4)

/-- The completion of a SWITCH job (R57, R58); without one running nothing happens (log 6). -/
def PU.completeSwitch (s : State) : State :=
  match s.pu.job with
  | some j =>
    if j.type = .switch then
      match PU.validate s.mem (PU.base s.pu j.bank) j.count j.crc with
      | none => PU.switch j s
      | some f => PU.idle (JW.offerC (.opDone (PU.request s.pu) 6 .priceFault (some f)) s)
    else s
  | none => s

/-- The completion of a CHECK job (R58); without one running nothing happens (log 6). -/
def PU.completeCheck (s : State) : State :=
  match s.pu.job with
  | some j =>
    if j.type = .check then
      match PU.validate s.mem (PU.base s.pu j.bank) j.count j.crc with
      | none => PU.idle (JW.offerC (.opDone (PU.request s.pu) 7 .done none) (PU.clearFault s))
      | some f => PU.idle (JW.offerC (.opDone (PU.request s.pu) 7 .priceFault (some f)) (PU.setFault s))
    else s
  | none => s

/-! ### Pricing (R62 to R65) -/

/-- A priced item (R64): the record it was priced from, net, tare and count, the amount and the epoch. -/
structure Priced where
  record : PluRecord
  net : Nat
  tare : Nat
  count : Nat
  amount : Nat
  epoch : Nat
  deriving DecidableEq, Repr

/-- The refusal of a WEIGHED pricing by the weight state (R62). -/
def weighedRefusal : WeightState → Option Message
  | .stable => none
  | .motion => some .motion
  | .over => some .over
  | .under => some .under
  | .zeroing => some .noZero
  | .none => some .notAllowed

/-- The amount of a weight: shown mg × unit price × (100 − markdown) ÷ 100,000,000, rounded (R62). -/
def weighedAmount (r : PluRecord) (shown : Int) : Int :=
  roundDiv (shown * r.unitPrice * (100 - (r.markdown : Int))) 100000000

/-- The amount of a count: count × unit price × (100 − markdown) ÷ 100, rounded (R63). -/
def countedAmount (r : PluRecord) (count : Nat) : Int :=
  roundDiv (count * r.unitPrice * (100 - (r.markdown : Int))) 100

/-- R64: the check of a rounded amount. -/
def checkAmount (amount : Int) : Except Message Nat :=
  if amount ≤ 0 then .error .belowMin
  else if 999999 < amount then .error .priceLimit
  else .ok amount.toNat

/-- Grams of a weight in mg (R15). -/
def grams (mg : Int) : Nat := (mg / 1000).toNat

/-- R62 to R64: an item of record `r` is priced, `kind` being the kind of the station's selection, `ch` its channel and `value`
the buffer value. -/
def PU.price (epoch : Nat) (kind : PluKind) (ch : Channel) (value : Option Nat) (r : PluRecord) :
    Except Message Priced :=
  if r.kind ≠ kind then .error .notAllowed
  else match r.kind with
    | .weighed =>
      match weighedRefusal ch.state with
      | some m => .error m
      | none =>
        match ch.settings, ch.shown with
        | some c, some shown =>
          if ch.net ≤ 0 ∨ shown < c.cal.minimum then .error .belowMin
          else (checkAmount (weighedAmount r shown)).map (fun a =>
            { record := r, net := grams shown, tare := grams ch.tare, count := 0, amount := a, epoch := epoch })
        | _, _ => .error .notAllowed
    | .counted =>
      let n := value.getD 1
      if n = 0 ∨ 99 < n then .error .notAllowed
      else (checkAmount (countedAmount r n)).map (fun a =>
        { record := r, net := 0, tare := 0, count := n, amount := a, epoch := epoch })
    | .fixed =>
      (checkAmount (countedAmount r 1)).map (fun a =>
        { record := r, net := 0, tare := 0, count := 1, amount := a, epoch := epoch })

/-- R65: the live amount of a display, blank as `none`. -/
def PU.liveAmount (fault : Bool) (selection : Option PluRecord) (ch : Channel) : Option Nat :=
  match selection, ch.shown with
  | some r, some shown =>
    if r.kind = .weighed ∧ fault = false ∧ (ch.state = .motion ∨ ch.state = .stable) ∧ 0 ≤ ch.net then
      some (weighedAmount r shown).toNat
    else none
  | _, _ => none

end Sys2Proof.Machine
end

