-- ==== Sys2Proof/Machine/Labels.lean ====
section
/-! DEFINITION. The Label Composer: layout checks (R68 to R70), field values (R72, R73), the numeric edit (R75 to R77), dates (R78,
R79), barcode digits (R80, R81), composition (R71) and label serials (R82). -/

namespace Sys2Proof.Machine

open Sys2Proof

/-! ### Layout checks (R69, 11.5) -/

/-- The field kind of a code (11.5). -/
def fieldKindOf : Nat → Option FieldKind
  | 0 => some .literal
  | 1 => some .pluName
  | 2 => some .pluNumber
  | 3 => some .netWeight
  | 4 => some .tare
  | 5 => some .count
  | 6 => some .unitPrice
  | 7 => some .amount
  | 8 => some .packDate
  | 9 => some .useBy
  | 10 => some .orderNumber
  | 11 => some .ticket
  | 12 => some .labelSerial
  | 13 => some .clerk
  | 14 => some .station
  | 15 => some .orderTotal
  | 16 => some .itemCount
  | 17 => some .barcode
  | _ => none

/-- The thirteen numeric kinds (4.3). -/
def FieldKind.numeric : FieldKind → Bool
  | .literal | .pluName | .packDate | .useBy | .barcode => false
  | _ => true

/-- A digit position of a pattern, `9` or `Z` (R75). -/
def digitPosition (b : Byte) : Bool := b == 0x39 || b == 0x5A

/-- An entry of a layout as it stands in counter memory. -/
structure RawEntry where
  kind : Nat
  row : Nat
  column : Nat
  length : Nat
  format : Nat
  patternLength : Nat
  pattern : List Byte
  deriving DecidableEq, Repr

/-- Entry `i`, counted from 1, of the layout at `a` (11.5). -/
def readEntry (m : Memory) (a i : Nat) : RawEntry :=
  let e := a + 16 + 30 * (i - 1)
  { kind := m.num e 1, row := m.num (e + 1) 1, column := m.num (e + 2) 1, length := m.num (e + 3) 1,
    format := m.num (e + 4) 1, patternLength := m.num (e + 5) 1, pattern := m.bytes (e + 6) 24 }

/-- The checks E1 to E8 of an entry (R69): the code of the first that fails (4 to 11), or the entry's copy. -/
def checkEntry (lineCount width : Nat) (r : RawEntry) : Except Nat FieldEntry :=
  match fieldKindOf r.kind with
  | none => .error 4
  | some kind =>
    let date := decide (kind = .packDate ∨ kind = .useBy)
    let pattern := r.pattern.take r.patternLength
    if ¬(1 ≤ r.row ∧ r.row ≤ lineCount) then .error 5
    else if ¬(1 ≤ r.column ∧ r.column ≤ width) then .error 6
    else if ¬(1 ≤ r.length ∧ r.length ≤ 24 ∧ r.column + r.length - 1 ≤ width) then .error 7
    else if r.patternLength ≠ r.length then .error 8
    else if ¬(r.format = 0 ∨ (date ∧ r.format ≤ 2)) then .error 9
    else if ¬((date → r.length = if r.format = 2 then 5 else 8) ∧ (kind = .barcode → r.length = 13)) then .error 10
    else if ¬(pattern.all printable ∧ (kind.numeric → pattern.any digitPosition)) then .error 11
    else .ok { kind := kind, row := r.row, column := r.column, length := r.length, format := r.format,
               pattern := pattern }

/-- Entries `i` to `i + n − 1` of a layout are checked in turn; the first failure comes with its entry number (R69). -/
def checkEntries (m : Memory) (a lineCount width : Nat) : Nat → Nat → Except (Nat × Nat) (List FieldEntry)
  | 0, _ => .ok []
  | n + 1, i =>
    match checkEntry lineCount width (readEntry m a i) with
    | .error check => .error (check, i)
    | .ok e => (checkEntries m a lineCount width n (i + 1)).map (fun es => e :: es)

/-- The checks of R69 on the layout at `a`: its copy, or the failing check and the entry number (0 for a header check). DESIGN CHOICE:
`field_count`, whose width 11.5 does not give, is the byte 2; bytes 3 to 15 are not read (log 43). -/
def checkLayout (m : Memory) (a : Nat) : Except (Nat × Nat) Layout :=
  if Config.memorySize < a + 512 then .error (0, 0)
  else
    let lineCount := m.num a 1
    let width := m.num (a + 1) 1
    let fieldCount := m.num (a + 2) 1
    if ¬(1 ≤ lineCount ∧ lineCount ≤ 8) then .error (1, 0)
    else if ¬(16 ≤ width ∧ width ≤ 40) then .error (2, 0)
    else if ¬(1 ≤ fieldCount ∧ fieldCount ≤ 16) then .error (3, 0)
    else (checkEntries m a lineCount width fieldCount 1).map
      (fun es => { lineCount := lineCount, width := width, entries := es })

/-- The STATION_EVENT of a layout failure (R70). -/
def layoutEvent (layout check entry : Nat) : RecordBody :=
  .stationEvent .layout none layout check entry 0 0

/-- Layout `n` is read and decided (R68, R70). -/
def LC.loadLayout (n : Fin 8) (s : State) : State :=
  match checkLayout s.mem (s.lc.base + 512 * n.val) with
  | .ok layout => { s with lc := { s.lc with layouts := s.lc.layouts.set n.val (.usable layout) n.isLt } }
  | .error (check, entry) =>
    NU.set .station (JW.offerI (layoutEvent n.val check entry)
      { s with lc := { s.lc with layouts := s.lc.layouts.set n.val .unusable n.isLt } })

/-- The layouts 0 to 7 in order, then the total layout number (R68, R70). -/
def LC.load (totalLayout : Nat) (s : State) : State :=
  let s1 := stations.foldl (fun s n => LC.loadLayout n s) s
  if h : totalLayout < 8 then { s1 with lc := { s1.lc with total := some ⟨totalLayout, h⟩ } }
  else NU.set .station (JW.offerI (layoutEvent totalLayout 0 0) { s1 with lc := { s1.lc with total := none } })

/-! ### The numeric edit (R75 to R77) -/

/-- The decimal digits of a value, most significant first, 0 as one digit; `fuel` bounds their number. -/
def decimalDigits : Nat → Nat → List Nat
  | 0, _ => []
  | fuel + 1, n => if n < 10 then [n] else decimalDigits fuel (n / 10) ++ [n % 10]

/-- The digits of a value without leading zeros (R75). -/
def digitsOf (n : Nat) : List Nat := decimalDigits (n.log2 + 1) n

/-- A digit as an ASCII byte. -/
def digitByte (d : Nat) : Byte := BitVec.ofNat 8 (0x30 + d)

/-- The `n` low decimal digits of a value, with leading zeros, as ASCII. -/
def paddedDigits : Nat → Nat → List Byte
  | 0, _ => []
  | n + 1, v => paddedDigits n (v / 10) ++ [digitByte (v % 10)]

/-- A character the edit forms, and whether it was printed from a digit, the point or a comma (R77). -/
structure EditChar where
  char : Byte
  printed : Bool
  deriving DecidableEq, Repr

/-- R76: the characters of a pattern without its leading `$`, from the assigned digits, `suppress` being the suppression. -/
def editWalk : List Byte → List Nat → Bool → List EditChar
  | [], _, _ => []
  | p :: ps, digits, suppress =>
    if p = 0x5A then
      match digits with
      | d :: ds =>
        if suppress ∧ d = 0 then { char := 0x20, printed := false } :: editWalk ps ds true
        else { char := digitByte d, printed := true } :: editWalk ps ds false
      | [] => { char := 0x20, printed := false } :: editWalk ps [] suppress
    else if p = 0x39 then
      match digits with
      | d :: ds => { char := digitByte d, printed := true } :: editWalk ps ds false
      | [] => { char := 0x20, printed := false } :: editWalk ps [] suppress
    else if p = 0x2E then { char := 0x2E, printed := true } :: editWalk ps digits false
    else if p = 0x2C then
      if suppress then { char := 0x20, printed := false } :: editWalk ps digits true
      else { char := 0x2C, printed := true } :: editWalk ps digits false
    else { char := p, printed := false } :: editWalk ps digits suppress

/-- R77: the floating `$` before the characters that follow it in the pattern. -/
def floatSign (body : List EditChar) : List Byte :=
  match body.findIdx? EditChar.printed with
  | none => 0x20 :: body.map EditChar.char
  | some j => List.replicate j 0x20 ++ [0x24] ++ (body.drop j).map EditChar.char

/-- The numeric edit of a value through a pattern (R75 to R77). -/
def numericEdit (pattern : List Byte) (value : Nat) : List Byte :=
  let digits := digitsOf value
  let p := pattern.countP digitPosition
  if p < digits.length then List.replicate pattern.length 0x2A
  else
    let assigned := List.replicate (p - digits.length) 0 ++ digits
    match pattern with
    | 0x24 :: rest => floatSign (editWalk rest assigned true)
    | _ => (editWalk pattern assigned true).map EditChar.char

/-- The pattern `ZZ9.999` of the weight text (R44). -/
def weightPattern : List Byte := [0x5A, 0x5A, 0x39, 0x2E, 0x39, 0x39, 0x39]

/-! ### Dates and barcodes (R78 to R81) -/

/-- A date in one of the three formats (R78). -/
def dateText (format : Nat) (d : Date) : List Byte :=
  let dd := paddedDigits 2 d.day
  let mm := paddedDigits 2 d.month
  let yy := paddedDigits 2 (d.year - 2000)
  match format with
  | 0 => dd ++ [0x2F] ++ mm ++ [0x2F] ++ yy
  | 1 => yy ++ [0x2D] ++ mm ++ [0x2D] ++ dd
  | _ => dd ++ [0x2E] ++ mm

/-- The check digit over twelve digits: weights 1 and 3 in turn (R81). -/
def checkDigit (digits : List Nat) : Nat :=
  (10 - ((digits.zipIdx.map (fun p => if p.2 % 2 = 0 then p.1 else 3 * p.1)).sum) % 10) % 10

/-- The `n` low decimal digits of a value, with leading zeros. -/
def lowDigits : Nat → Nat → List Nat
  | 0, _ => []
  | n + 1, v => lowDigits n (v / 10) ++ [v % 10]

/-- The thirteen digits of a barcode (R80). -/
def barcodeDigits (plu amount : Nat) : List Nat :=
  let twelve := [2] ++ lowDigits 5 plu ++ [0] ++ lowDigits 5 amount
  twelve ++ [checkDigit twelve]

/-! ### Composition (R71 to R74) -/

/-- The use-by value of a label: none, a date, or beyond the calendar (R72, R79). -/
inductive UseBy where
  | absent
  | beyond
  | on (d : Date)
  deriving DecidableEq, Repr

/-- The values of a label, an absent one `none` (R72, R73). -/
structure LabelValues where
  name : Option (List Byte)
  plu : Option Nat
  net : Option Nat
  tare : Option Nat
  count : Option Nat
  unitPrice : Option Nat
  amount : Option Nat
  packDate : Date
  useBy : UseBy
  orderNumber : Option Nat
  ticket : Option Nat
  serial : Nat
  clerk : Option Nat
  station : Nat
  orderTotal : Option Nat
  itemCount : Option Nat
  barcode : Option (Nat × Nat)
  deriving DecidableEq, Repr

/-- The value of a numeric kind (R72, R73). -/
def LabelValues.number (v : LabelValues) : FieldKind → Option Nat
  | .pluNumber => v.plu
  | .netWeight => v.net
  | .tare => v.tare
  | .count => v.count
  | .unitPrice => v.unitPrice
  | .amount => v.amount
  | .orderNumber => v.orderNumber
  | .ticket => v.ticket
  | .labelSerial => some v.serial
  | .clerk => v.clerk
  | .station => some v.station
  | .orderTotal => v.orderTotal
  | .itemCount => v.itemCount
  | .literal | .pluName | .packDate | .useBy | .barcode => none

/-- `n` spaces. -/
def blanks (n : Nat) : List Byte := List.replicate n 0x20

/-- The text of a field: R74 for LITERAL and PLU_NAME, R75 to R77 for numbers, R78 to R81 for dates and barcodes; a blank field is
spaces (4.3). -/
def fieldText (v : LabelValues) (e : FieldEntry) : List Byte :=
  match e.kind with
  | .literal => e.pattern
  | .pluName =>
    match v.name with
    | some name => (name ++ blanks e.length).take e.length
    | none => blanks e.length
  | .packDate => dateText e.format v.packDate
  | .useBy =>
    match v.useBy with
    | .absent => blanks e.length
    | .beyond => List.replicate e.length 0x2A
    | .on d => dateText e.format d
  | .barcode =>
    match v.barcode with
    | some (plu, amount) => (barcodeDigits plu amount).map digitByte
    | none => blanks e.length
  | kind =>
    match v.number kind with
    | some n => numericEdit e.pattern n
    | none => blanks e.length

/-- Characters of `text` written over a line from `column` on, counted from 1. -/
def overwrite (column : Nat) (text line : List Byte) : List Byte :=
  line.take (column - 1) ++ text ++ line.drop (column - 1 + text.length)

/-- A label's text: a grid of spaces with the fields written over it in entry order (R71). -/
def composeLabel (layout : Layout) (v : LabelValues) : List (List Byte) :=
  layout.entries.foldl (fun grid e => grid.modify (e.row - 1) (overwrite e.column (fieldText v e)))
    (List.replicate layout.lineCount (blanks layout.width))

/-- The use-by date of a pack date and a shelf life (R79). -/
def useByOf (pack : Date) (shelfLife : Nat) : UseBy :=
  if shelfLife = 0 then .absent
  else match pack.advance shelfLife with
    | none => .beyond
    | some d => .on d

/-- The values of an item label (R72). `order` is the destination order, `none` for a loose item. -/
def itemValues (p : Priced) (order : Option Order) (clerk : Option (Fin 32)) (st : Station) (date : Date)
    (serial : Nat) : LabelValues :=
  let weighed := decide (p.record.kind = .weighed)
  { name := some p.record.name, plu := some p.record.plu, net := if weighed then some p.net else none,
    tare := if weighed then some p.tare else none, count := if weighed then none else some p.count,
    unitPrice := some p.record.unitPrice, amount := some p.amount, packDate := date,
    useBy := useByOf date p.record.shelfLife, orderNumber := order.map Order.number, ticket := order.map Order.ticket,
    serial := serial, clerk := clerk.map (fun c => c.val + 1), station := st.val,
    orderTotal := order.map (fun o => o.total + p.amount), itemCount := order.map (fun o => o.live.length + 1),
    barcode := if p.record.plu ≤ 99999 ∧ p.amount ≤ 99999 then some (p.record.plu, p.amount) else none }

/-- The values of an order-total label (R73). -/
def totalValues (o : Order) (st : Station) (date : Date) (serial : Nat) : LabelValues :=
  { name := none, plu := none, net := none, tare := none, count := none, unitPrice := none, amount := some o.total,
    packDate := date, useBy := .absent, orderNumber := some o.number, ticket := some o.ticket, serial := serial,
    clerk := o.clerk.map (fun c => c.val + 1), station := st.val, orderTotal := some o.total,
    itemCount := some o.live.length, barcode := if o.total ≤ 99999 then some (0, o.total) else none }

/-- The copy of a USABLE layout; NONE and UNUSABLE refuse the composition (R67, R71). -/
def LC.layout (s : State) (n : Fin 8) : Option Layout :=
  match s.lc.layouts[n] with
  | .usable l => some l
  | .none => none
  | .unusable => none

/-- The layout of order-total labels, when it is usable (R70, R71). -/
def LC.totalLayout (s : State) : Option Layout := s.lc.total.bind (LC.layout s)

/-! ### Label serials (R82) -/

/-- A serial is held by a job in a print queue or by an entry of the recent-labels list (R82). -/
def LC.held (s : State) (serial : Nat) : Bool :=
  s.lc.recent.any (fun j => j.serial == serial) || (s.printer 0).queue.any (fun j => j.serial == serial)
    || (s.printer 1).queue.any (fun j => j.serial == serial)

/-- The serial after `n`: 999,999 is followed by 1 (R82). -/
def nextSerial (n : Nat) : Nat := if n = 999999 then 1 else n + 1

/-- The first serial from `n` on that nothing holds; the passing over ends within 65 serials (R82). -/
def LC.freeSerial (s : State) : Nat → Nat → Nat
  | 0, n => n
  | fuel + 1, n => if LC.held s n then LC.freeSerial s fuel (nextSerial n) else n

/-- The serial the next accepted label takes (R82). -/
def LC.serial (s : State) : Nat := LC.freeSerial s 65 s.lc.nextSerial

/-- A serial is taken: the next label serial becomes the one after it (R82). -/
def LC.take (serial : Nat) (s : State) : State := { s with lc := { s.lc with nextSerial := nextSerial serial } }

end Sys2Proof.Machine
end

