-- ==== Sys2Proof/Machine/Day.lean ====
section
/-! DEFINITION. The Day and Totals Unit: the accumulators (R148 to R151), the totals record (R152), the completion of a close (R142,
R145) and the test of a totals area (R161). -/

namespace Sys2Proof.Machine

open Sys2Proof

/-! ### Accumulators (R148 to R151) -/

/-- A count one higher by `n`; 4,294,967,295 stays (R148). -/
def addCount (c n : Nat) : Nat := min (c + n) 4294967295

/-- The state with changed accumulators. -/
def DT.modAcc (f : Accumulators → Accumulators) (s : State) : State := { s with dt := { s.dt with acc := f s.dt.acc } }

/-- The state with changed grand accumulators. -/
def DT.modGrand (f : GrandTotals → GrandTotals) (s : State) : State :=
  DT.modAcc (fun a => { a with grand := f a.grand }) s

/-- One label issued (R151). -/
def DT.countLabel (s : State) : State :=
  DT.modGrand (fun g => { g with labelsIssued := addCount g.labelsIssued 1 }) s

/-- One reprint (R151). -/
def DT.countReprint (s : State) : State := DT.modGrand (fun g => { g with reprints := addCount g.reprints 1 }) s

/-- One ticket issued (R151). -/
def DT.countIssued (s : State) : State :=
  DT.modGrand (fun g => { g with ticketsIssued := addCount g.ticketsIssued 1 }) s

/-- One ticket lapsed (R151). -/
def DT.countLapsed (s : State) : State :=
  DT.modGrand (fun g => { g with ticketsLapsed := addCount g.ticketsLapsed 1 }) s

/-- The weight an item adds: its net when WEIGHED, 0 otherwise (R149). -/
def Item.weight (i : Item) : Nat := if i.kind = .weighed then i.net else 0

/-- A tally with an item of amount `a` and weight `w` added (R149). -/
def Tally.addItem (a w : Nat) (t : Tally) : Tally :=
  { t with items := addCount t.items 1, amount := t.amount + a, weight := t.weight + w }

/-- The accumulators with a written ITEM added; `loose` tells a loose item (R149). -/
def Accumulators.addItem (loose : Bool) (i : Item) (a : Accumulators) : Accumulators :=
  { grand := { a.grand with
      itemsSold := addCount a.grand.itemsSold 1, amount := a.grand.amount + i.amount,
      netWeight := a.grand.netWeight + i.weight,
      looseItems := if loose then addCount a.grand.looseItems 1 else a.grand.looseItems }
    departments := a.departments.set i.department.val ((a.departments[i.department]).addItem i.amount i.weight)
      i.department.isLt
    stations := a.stations.set i.station.val ((a.stations[i.station]).addItem i.amount 0) i.station.isLt
    clerks := (match i.clerk with
      | some c => a.clerks.set c.val ((a.clerks[c]).addItem i.amount 0) c.isLt
      | none => a.clerks)
    unclerked := match i.clerk with
      | some _ => a.unclerked
      | none => a.unclerked.addItem i.amount 0 }

/-- The accumulators with a finished order of a clerk and its voided items added (R150). -/
def Accumulators.addOrder (clerk : Option (Fin 32)) (voided : Nat) (a : Accumulators) : Accumulators :=
  { a with
    grand := { a.grand with
      ordersFinished := addCount a.grand.ordersFinished 1, itemsVoided := addCount a.grand.itemsVoided voided }
    clerks := match clerk with
      | some c => a.clerks.set c.val { a.clerks[c] with orders := addCount (a.clerks[c]).orders 1 } c.isLt
      | none => a.clerks }

/-- The accumulators with a voided order of `items` items added (R150). -/
def Accumulators.addVoid (items : Nat) (a : Accumulators) : Accumulators :=
  { a with grand := { a.grand with
      ordersVoided := addCount a.grand.ordersVoided 1, itemsVoided := addCount a.grand.itemsVoided items } }

/-! ### The totals record (R152, 11.6) -/

/-- A department entry (11.6). -/
def Tally.departmentBytes (t : Tally) : List Byte := field 4 t.items ++ field 6 t.amount ++ field 6 t.weight

/-- A station or unclerked entry (11.6). -/
def Tally.stationBytes (t : Tally) : List Byte := padTo 16 (field 4 t.items ++ field 6 t.amount)

/-- A clerk entry (11.6). -/
def Tally.clerkBytes (t : Tally) : List Byte :=
  padTo 16 (field 4 t.orders ++ field 4 t.items ++ field 6 t.amount)

/-- The 1,024 bytes of a totals record from the accumulators as they stand; `read` tells kind READ (R152, 11.6). -/
def DT.totalsRecord (read : Bool) (s : State) : List Byte :=
  let a := s.dt.acc
  let g := a.grand
  padTo 1024
    (field 1 read.toNat ++ field 1 s.dt.day.code ++ zeros 2 ++ field 4 s.dt.openedAt.seconds
      ++ field 4 s.dt.clock.seconds ++ field 4 s.pu.epoch
      ++ field 4 g.ordersFinished ++ field 4 g.ordersVoided ++ field 4 g.itemsSold ++ field 4 g.itemsVoided
      ++ field 4 g.looseItems ++ field 4 g.labelsIssued ++ field 4 g.reprints ++ field 4 g.ticketsIssued
      ++ field 4 g.ticketsLapsed ++ field 6 g.amount ++ field 6 g.netWeight
      ++ a.departments.toList.flatMap Tally.departmentBytes ++ a.stations.toList.flatMap Tally.stationBytes
      ++ a.clerks.toList.flatMap Tally.clerkBytes ++ a.unclerked.stationBytes)

/-- The totals record is written to an area (R152). -/
def DT.writeTotals (read : Bool) (area : Nat) (s : State) : State := MP.write area (DT.totalsRecord read s) s

/-! ### Regions and totals areas (R155, R161) -/

/-- A run of bytes, from `lo` up to but not including `hi`. -/
structure Region where
  lo : Nat
  hi : Nat
  deriving DecidableEq, Repr

/-- Two regions share a byte; an empty region shares none (R155). -/
def Region.overlaps (x y : Region) : Bool := decide (x.lo < x.hi ∧ y.lo < y.hi ∧ x.lo < y.hi ∧ y.lo < x.hi)

/-- A region of `n` bytes from `base`, cut at the end of counter memory (R155). -/
def Region.cut (base n : Nat) : Region := { lo := base, hi := min (base + n) Config.memorySize }

/-- The regions that check 6 of R155 keeps apart: the directory, the two rings, the journal area, the station records, the layouts
and the two banks. -/
def regionList (urgentBase urgentCap routineBase routineCap journalBase journalCap settingsBase layoutsBase bankA
    bankB : Nat) : List Region :=
  [{ lo := 0, hi := 256 }, { lo := urgentBase, hi := urgentBase + 64 * urgentCap },
   { lo := routineBase, hi := routineBase + 64 * routineCap }, { lo := journalBase, hi := journalBase + 64 * journalCap },
   { lo := settingsBase, hi := settingsBase + 512 }, Region.cut layoutsBase 4096, Region.cut bankA 57600,
   Region.cut bankB 57600]

/-- The regions as the blocks hold them after START. -/
def MP.regions (s : State) : List Region :=
  regionList s.lu.urgent.slotBase s.lu.urgent.capacity s.lu.routine.slotBase s.lu.routine.capacity s.jw.base s.jw.capacity
    s.settingsBase s.lc.base s.pu.bankA s.pu.bankB

/-- MP passes a totals area: a multiple of 64, its 1,024 bytes inside the window, no byte shared with a region (R161). -/
def MP.areaGood (s : State) (area : Nat) : Bool :=
  match s.window with
  | none => false
  | some (lo, hi) =>
    decide (area % 64 = 0 ∧ lo ≤ area ∧ area + 1024 ≤ hi)
      && (MP.regions s).all (fun r => !r.overlaps { lo := area, hi := area + 1024 })

/-! ### Completion of a close (R142, R145, R146) -/

/-- The day state changes, which sets the DAY flag (R137). -/
def DT.setDay (d : DayState) (s : State) : State := NU.set .day { s with dt := { s.dt with day := d } }

/-- The day is CLOSING, in either stage. -/
def State.closing (s : State) : Bool := s.dt.day == .waiting || s.dt.day == .forced

/-- No slot holds an order and the line is empty (R142). -/
def DT.counterEmpty (s : State) : Bool := (OT.inUse s).isEmpty && s.tu.line.isEmpty

/-- The close job with its deadline timer stopped and its forcing cleared (R145, R147). -/
def CloseJob.stop (j : CloseJob) : CloseJob := { j with deadline := none, forcing := .idle }

/-- The completion of a close (R145). -/
def DT.complete (j : CloseJob) (s : State) : State :=
  let s1 := { s with dt := { s.dt with close := some j.stop } }
  let s2 := DT.writeTotals false j.area s1
  let s3 := JW.offerC (.dayClose s2.dt.openedAt s2.dt.clock (s2.dt.day == .forced) s2.pu.epoch j.area s2.dt.acc.grand) s2
  let s4 := JW.offerC (.opDone j.request 2 .done none) s3
  let s5 := DT.modAcc (fun _ => Accumulators.zero) s4
  let s6 := SD.reportAll Dialogue.dayClosed s5
  DT.setDay .closed { s6 with dt := { s6.dt with close := none } }

/-- DT takes a report of a freed slot or of an emptied line: in CLOSING it completes the close when nothing is left (R142). -/
def DT.reported (s : State) : State :=
  match s.dt.close with
  | some j => if s.closing && DT.counterEmpty s then DT.complete j s else s
  | none => s

end Sys2Proof.Machine
end

