-- ==== Sys2Proof/Machine/Printers.lean ====
section
/-! DEFINITION. The Print Queue Units: printer choice (R84), placement (R85), sending (R86), the frames and the timer (R87 to R91),
the link (R92, R93), the events (R94), reprint and clear (R95, R96). -/

namespace Sys2Proof.Machine

open Sys2Proof

/-- The most jobs a queue holds (R85). -/
def queueCapacity : Nat := 16

/-- The printer can be chosen: not DOWN, with room (R84). -/
def PQ.takes (q : PrintQueue) : Bool := q.state != .down && decide (q.queue.length < queueCapacity)

/-- The printer chosen for a label of a station, by its settings copy (R84). -/
def PQ.choose (s : State) (st : Station) : Option PrinterNo :=
  match (s.channel st).settings with
  | none => none
  | some c =>
    if PQ.takes (s.printer c.preferred) then some c.preferred
    else match c.alternate with
      | some p => if PQ.takes (s.printer p) then some p else none
      | none => none

/-- The JOB frames of a job: lines 1 to 5, then the lines that remain (R176). -/
def jobFrames (j : LabelJob) : List Frame :=
  let width := (j.text.headD []).length
  let part := fun first lines => Frame.job j.serial j.kind j.reprintCount j.text.length width first lines
  part 1 (j.text.take 5) :: (if 5 < j.text.length then [part 6 (j.text.drop 5)] else [])

/-- The top job of a READY printer is sent, whole (R86). -/
def PQ.send (p : PrinterNo) (s : State) : State :=
  match (s.printer p).queue with
  | [] => s
  | top :: _ =>
    if (s.printer p).state = .ready then
      (LK.handAll (printerLink p) (jobFrames top) s).modPrinter p
        (fun q => { q with topSent := true, state := .busy, timer := some q.timeout })
    else s

/-- A job is placed at the bottom of a queue (R85). -/
def PQ.place (p : PrinterNo) (j : LabelJob) (s : State) : State :=
  PQ.send p (s.modPrinter p (fun q => { q with
    queue := q.queue ++ [j], topSent := if q.queue = [] then false else q.topSent }))

/-- A PRINTER_EVENT is offered for a printer, and the PRINTER flag is set (R94). -/
def PQ.event (p : PrinterNo) (event : PrinterEvent) (reason : Option StopReason) (s : State) : State :=
  let q := (s.printer p).queue
  NU.set .printer (JW.offerI
    (.printerEvent (printerLink p) event reason (match q with
      | [] => 0
      | top :: _ => top.serial) q.length) s)

/-- A job's copy enters the recent-labels list at the head; an entry with its serial leaves first, and the 33rd entry leaves
(R88). -/
def enterRecent (j : LabelJob) (recent : List LabelJob) : List LabelJob :=
  (j :: recent.filter (fun e => e.serial != j.serial)).take 32

/-- The top job has been reported done: it leaves, its copy is listed (R87, R88). -/
def PQ.finishTop (p : PrinterNo) (s : State) : State :=
  match (s.printer p).queue with
  | [] => s
  | top :: rest =>
    { s.modPrinter p (fun q => { q with queue := rest, topSent := false })
      with lc := { s.lc with recent := enterRecent top s.lc.recent } }

/-- The DONE names the job in flight: the top, SENT (R87). -/
def PQ.namesTop (q : PrintQueue) (serial : Nat) : Bool :=
  match q.queue with
  | [] => false
  | top :: _ => top.serial == serial && q.topSent

/-- A DONE frame (R87). -/
def PQ.done (p : PrinterNo) (serial : Nat) (s : State) : State :=
  let q := s.printer p
  if PQ.namesTop q serial then
    match q.state with
    | .busy => PQ.send p ((PQ.finishTop p s).modPrinter p (fun q => { q with timer := none, state := .ready }))
    | .stopped =>
      if q.stop = some .noResponse then
        PQ.send p ((PQ.finishTop p s).modPrinter p (fun q => { q with stop := none, state := .ready }))
      else PQ.finishTop p s
    | .ready | .down => s
  else s

/-- A FAULT frame (R89). -/
def PQ.fault (p : PrinterNo) (reason : StopReason) (s : State) : State :=
  match (s.printer p).state with
  | .down => s
  | .ready | .busy | .stopped =>
    PQ.event p .fault (some reason)
      (s.modPrinter p (fun q => { q with timer := none, state := .stopped, stop := some reason }))

/-- A READY frame (R90). -/
def PQ.ready (p : PrinterNo) (s : State) : State :=
  if (s.printer p).state = .stopped then
    PQ.send p (s.modPrinter p (fun q => { q with stop := none, state := .ready }))
  else s

/-- The print timer expires; one that does not run does not expire (R91, log 6). -/
def PQ.expire (p : PrinterNo) (s : State) : State :=
  if (s.printer p).timer.isSome then
    PQ.event p .noResponse none
      (s.modPrinter p (fun q => { q with timer := none, state := .stopped, stop := some .noResponse }))
  else s

/-- A link-up of L8 or L9 (R92). -/
def PQ.linkUp (p : PrinterNo) (s : State) : State :=
  PQ.send p (s.modPrinter p (fun q => { q with state := .ready }))

/-- A link loss of L8 or L9 (R93). -/
def PQ.linkLoss (p : PrinterNo) (s : State) : State :=
  if (s.printer p).state = .down then s
  else PQ.event p .linkDown none
    (s.modPrinter p (fun q => { q with timer := none, stop := none, state := .down, topSent := false }))

/-- The reprint of a listed label; a count of 255 stays 255 (R95, R186). -/
def reprintJob (e : LabelJob) : LabelJob := { e with kind := .reprint, reprintCount := min (e.reprintCount + 1) 255 }

/-- A reprint is placed: after the job in flight of a BUSY printer, at the top, UNSENT, otherwise (R95). -/
def PQ.placeReprint (p : PrinterNo) (j : LabelJob) (s : State) : State :=
  PQ.send p (s.modPrinter p (fun q =>
    if q.state = .busy then { q with queue := q.queue.take 1 ++ [j] ++ q.queue.drop 1 }
    else { q with queue := j :: q.queue, topSent := false }))

/-- Every job of a queue is discarded (R96). -/
def PQ.clear (p : PrinterNo) (s : State) : State :=
  let up := s.linkUp (printerLink p)
  s.modPrinter p (fun q => { q with
    queue := [], topSent := false, timer := none, stop := none, state := if up then .ready else .down })

end Sys2Proof.Machine
end

