-- ==== Sys2Proof/Machine/Tickets.lean ====
section
/-! DEFINITION. The Ticket Unit without the orders: the settings (R98), numbers (R99, R100), the line (R101), lapses (R102), issues
(R103, R105), the dispenser (R104), calls (R108, R110) and returns to the line (R111, R114). -/

namespace Sys2Proof.Machine

open Sys2Proof

/-! ### Numbers (R99, R100) -/

/-- The in-use bit of a ticket number (R97). -/
def TU.used (t : TicketUnit) (n : Nat) : Bool :=
  if h : 1 ≤ n ∧ n ≤ 99 then t.inUse[n - 1]'(by omega) else false

/-- The in-use bit of a number set or cleared (R99). -/
def TU.mark (n : Nat) (used : Bool) (t : TicketUnit) : TicketUnit :=
  if h : 1 ≤ n ∧ n ≤ 99 then { t with inUse := t.inUse.set (n - 1) used (by omega) } else t

/-- The number after `n`: 99 is followed by 1 (R100). -/
def nextTicket (n : Nat) : Nat := if n = 99 then 1 else n + 1

/-- The scan of R100 upward from `n`; a round is 99 numbers. -/
def TU.scan (t : TicketUnit) : Nat → Nat → Nat
  | 0, n => n
  | fuel + 1, n => if TU.used t n then TU.scan t fuel (nextTicket n) else n

/-- The number the next allocation takes (R100). -/
def TU.number (t : TicketUnit) : Nat := TU.scan t 99 t.next

/-- A number is allocated: its bit is set and next ticket is the number after it (R100). -/
def TU.allocate (t : TicketUnit) : TicketUnit :=
  { TU.mark (TU.number t) true t with next := nextTicket (TU.number t) }

/-- A number becomes free (R99). -/
def TU.free (n : Nat) (s : State) : State := { s with tu := TU.mark n false s.tu }

/-! ### The line (R101, R102) -/

/-- The most entries the line holds (R101). -/
def lineCapacity : Nat := 64

/-- The line is full. -/
def TU.lineFull (s : State) : Bool := decide (lineCapacity ≤ s.tu.line.length)

/-- The state with another line. -/
def TU.setLine (line : List LineEntry) (s : State) : State := { s with tu := { s.tu with line := line } }

/-- A ticket lapses: its number is freed, a TICKET_LAPSED is offered, DT counts it. Its entry has left the line (R102). -/
def TU.lapse (cause : LapseCause) (e : LineEntry) (s : State) : State :=
  DT.countLapsed (JW.offerI (.ticketLapsed e cause) (TU.free e.ticket s))

/-- What became of a ticket handed back. -/
inductive Returned where
  | toLine
  | lapsed
  deriving DecidableEq, Repr

/-- A skipped ticket is placed: it lapses by CLOSE, SKIP_LIMIT or LINE_FULL, or goes to the bottom (R111). The entry's `skips` has
been increased. -/
def TU.placeSkipped (e : LineEntry) (s : State) : State :=
  if s.dt.day = .forced then TU.lapse .close e s
  else if e.skips = s.tu.settings.skipLimit then TU.lapse .skipLimit e s
  else if TU.lineFull s then TU.lapse .lineFull e s
  else TU.setLine (s.tu.line ++ [e]) s

/-- The ticket of a clerk who signs off is placed: it lapses by CLOSE or LINE_FULL, or goes to the top (R114). -/
def TU.placeReturned (e : LineEntry) (s : State) : State × Returned :=
  if s.dt.day = .forced then (TU.lapse .close e s, .lapsed)
  else if TU.lineFull s then (TU.lapse .lineFull e s, .lapsed)
  else (TU.setLine (e :: s.tu.line) s, .toLine)

/-- Every ticket of the line lapses with cause CLOSE, from the top to the bottom (R115). -/
def TU.lapseAll : List LineEntry → State → State
  | [], s => s
  | e :: rest, s => TU.lapseAll rest (TU.lapse .close e (TU.setLine rest s))

/-! ### Issues (R103, R105) -/

/-- A ticket is issued to the bottom of the line and counted (R103, R105). -/
def TU.issue (source : TicketSource) (s : State) : State :=
  let e : LineEntry := { ticket := TU.number s.tu, issued := s.dt.clock.time, skips := 0, source := source }
  DT.countIssued (TU.setLine (s.tu.line ++ [e]) { s with tu := TU.allocate s.tu })

/-- An answer to a TAKE is handed to LK for L10 and becomes the last take answer (R182). -/
def TU.answerTake (f : Frame) (s : State) : State :=
  (LK.hand dispenserLink f s).modLink dispenserLink (fun k => { k with lastTakeAnswer := some f })

/-- A delivered TAKE (R103). -/
def TU.take (s : State) : State :=
  if s.dt.day ≠ .opened then TU.answerTake (.refuse .closed) s
  else if TU.lineFull s then TU.answerTake (.refuse .full) s
  else TU.answerTake (.printTicket (TU.number s.tu) s.dt.clock.time) (TU.issue .dispenser s)

/-- A PRINTER_EVENT of the dispenser (R104). -/
def TU.dispenserEvent (event : PrinterEvent) (reason : Option StopReason) (s : State) : State :=
  NU.set .printer (JW.offerI (.printerEvent dispenserLink event reason 0 0) s)

/-- The serving list is handed to LK for L11 (R97, R108, R109). -/
def TU.sendList (s : State) : State := LK.hand displayLink (.list s.tu.serving) s

/-! ### Calls (R108, R110) -/

/-- A called number enters the serving list at the head, once, and a fifth leaves (R108). -/
def enterServing (ticket : Nat) (serving : List Nat) : List Nat :=
  (ticket :: serving.filter (fun n => n != ticket)).take 4

/-- The call count after a call; 255 stays (R108). -/
def callCountAfter (n : Nat) : Nat := min (n + 1) 255

/-- A call of the order in a slot, its call record in `c` (R108). A first call finds the count 0. -/
def TU.call (i : SlotNo) (c : CallRecord) (o : Order) (s : State) : State :=
  let t := s.tu.settings
  let s1 := LK.hand displayLink (.call o.ticket t.chimeTone c.level t.envelope) s
  let s2 := TU.sendList { s1 with tu := { s1.tu with serving := enterServing o.ticket s1.tu.serving } }
  (s2.setOrder i (some { o with callCount := callCountAfter o.callCount })).setCall i
    (some { c with timer := some t.callTimeout })

/-- A recall: the level one step louder, then a call (R110). -/
def TU.recall (i : SlotNo) (o : Order) (s : State) : State :=
  match s.callRecord i with
  | none => s
  | some c => TU.call i { c with level := max 1 (c.level - 1) } o s

/-- The call timer of a slot is stopped; the call record is kept (R33, R113). -/
def TU.stopTimer (i : SlotNo) (s : State) : State :=
  s.setCall i ((s.callRecord i).map (fun c => { c with timer := none }))

end Sys2Proof.Machine
end

