-- ==== Sys2Proof/Machine/Orders.lean ====
section
/-! DEFINITION. The Order Table: order numbers and creation (R119, R125, R126), clerks (R120 to R124), items (R127, R130), parking and
takeover (R128, R129), finish (R131, R132), void (R133) and dissolution (R135); and the skip and the timer expiry of a
CALLED order (R111, R112). -/

namespace Sys2Proof.Machine

open Sys2Proof

/-! ### Numbers and creation (R119) -/

/-- Some order holds a number. -/
def OT.numberHeld (s : State) (n : Nat) : Bool :=
  (OT.inUse s).any (fun i => (s.order i).any (fun o => o.number == n))

/-- The number after `n`: 9,999 is followed by 1 (R119). -/
def nextOrderNumber (n : Nat) : Nat := if n = 9999 then 1 else n + 1

/-- The first number from `n` on that no order holds; the passing ends within 32 numbers (R119). -/
def OT.freeNumber (s : State) : Nat → Nat → Nat
  | 0, n => n
  | fuel + 1, n => if OT.numberHeld s n then OT.freeNumber s fuel (nextOrderNumber n) else n

/-- The number a created order takes (R119). -/
def OT.number (s : State) : Nat := OT.freeNumber s 32 s.ot.next

/-- An order is created in a slot with the number of R119 (R125, R126). -/
def OT.create (i : SlotNo) (ticket : Nat) (source : OrderSource) (state : OrderState) (clerk : Option (Fin 32))
    (s : State) : State :=
  let n := OT.number s
  let o : Order := { number := n, ticket := ticket, source := source, state := state, clerk := clerk, items := [],
                     total := 0, opened := s.dt.clock.time, callCount := 0, lastStation := none }
  { s.setOrder i (some o) with ot := { (s.setOrder i (some o)).ot with next := nextOrderNumber n } }

/-! ### Clerks (R117, R120 to R124) -/

/-- A clerk's order slot becomes `slot`. -/
def OT.setSlot (c : Fin 32) (slot : Option SlotNo) (s : State) : State :=
  s.setClerk c { s.clerk c with slot := slot }

/-- A clerk's station becomes `station`. -/
def OT.setStation (c : Fin 32) (station : Option Station) (s : State) : State :=
  s.setClerk c { s.clerk c with station := station }

/-- OT reports a change of the clerk at a station (R43, R121). -/
def OT.reportClerk (station : Option Station) (s : State) : State :=
  match station with
  | none => s
  | some st => SD.report st Dialogue.clerkChanged s

/-- A clerk signs on at a station: the clerk there is displaced, the clerk leaves another station (R120, R121). -/
def OT.signOn (c : Fin 32) (st : Station) (s : State) : State :=
  let from_ := (s.clerk c).station
  let s1 := match OT.clerkAt s st with
    | some m => OT.setStation m none s
    | none => s
  OT.reportClerk from_ (OT.reportClerk (some st) (OT.setStation c (some st) s1))

/-- The clerk at a station loses it at a link loss or a disable (R124). -/
def OT.loseStation (st : Station) (s : State) : State :=
  match OT.clerkAt s st with
  | some c => OT.setStation c none s
  | none => s

/-! ### Dissolution (R135) -/

/-- The clerk of an order, if any, holds no order any more. -/
def OT.unbind (clerk : Option (Fin 32)) (s : State) : State :=
  match clerk with
  | none => s
  | some c => OT.setSlot c none s

/-- The station of a clerk, if any. -/
def OT.stationOf (clerk : Option (Fin 32)) (s : State) : Option Station := clerk.bind (fun c => (s.clerk c).station)

/-- The slot becomes free and its call record not present; the station of its clerk is told that the order was dissolved
(R113, R135). DT is told by the caller, once the whole event is made (log 18). -/
def OT.dissolve (i : SlotNo) (o : Order) (s : State) : State :=
  let station := OT.stationOf o.clerk s
  let s1 := ((OT.unbind o.clerk s).setOrder i none).setCall i none
  match station with
  | none => s1
  | some st => SD.report st (Dialogue.orderDissolved i) s1

/-- A skip of the CALLED order in a slot (R111). -/
def OT.skip (i : SlotNo) (o : Order) (s : State) : State :=
  let s1 := TU.stopTimer i s
  let s2 := match s1.callRecord i with
    | some c => TU.placeSkipped { c.entry with skips := c.entry.skips + 1 } s1
    | none => s1
  DT.reported (OT.dissolve i o s2)

/-- The expiry of the call timer of a slot (R112); a timer that does not run does not expire (log 6). -/
def OT.callExpiry (i : SlotNo) (s : State) : State :=
  match s.callRecord i, s.order i with
  | some c, some o =>
    if c.timer.isNone then s
    else if o.callCount ≤ s.tu.settings.recallLimit then TU.recall i o s
    else
      let station := OT.stationOf o.clerk s
      let s1 := OT.skip i o s
      match station with
      | none => s1
      | some st => SD.report st Dialogue.noShowReported s1
  | _, _ => s

/-! ### Signing off (R122, R123) -/

/-- What became of the order of a clerk who signs off (R123). -/
inductive SignOffResult where
  | none
  | parked
  | returned
  | lapsed
  deriving DecidableEq, Repr

/-- Codes of the CLERK_OFF result (11.3). -/
def SignOffResult.code : SignOffResult → Nat
  | .none => 0
  | .parked => 1
  | .returned => 2
  | .lapsed => 3

/-- The order of a clerk, with its slot. -/
def OT.orderOf (s : State) (c : Fin 32) : Option (SlotNo × Order) :=
  (s.clerk c).slot.bind (fun i => (s.order i).map (fun o => (i, o)))

/-- A clerk's order is put down at a sign-off: an OPEN order is parked, a CALLED order dissolved with its ticket handed back
(R114, R122). -/
def OT.putDown (c : Fin 32) (s : State) : State × SignOffResult :=
  match OT.orderOf s c with
  | none => (s, .none)
  | some (i, o) =>
    match o.state with
    | .called =>
      let placed := match s.callRecord i with
        | some k => TU.placeReturned k.entry (TU.stopTimer i s)
        | none => (s, .toLine)
      (OT.dissolve i o placed.1,
        match placed.2 with
        | .toLine => .returned
        | .lapsed => .lapsed)
    | .opened | .parked =>
      (s.setOrder i (some { o with state := .parked, clerk := none }), .parked)

/-- A clerk signs off: the order is put down, the clerk becomes OFF, the clerk's station is told; then DT takes the report of a
slot freed (R122, R123, R142). -/
def OT.signOff (c : Fin 32) (s : State) : State × SignOffResult :=
  let station := (s.clerk c).station
  let put := OT.putDown c s
  let s1 := OT.reportClerk station (put.1.setClerk c { station := none, slot := none })
  ((if put.2 = .returned ∨ put.2 = .lapsed then DT.reported s1 else s1), put.2)

/-! ### Items (R127, R130) -/

/-- OT's answer to the place question: would the order accept an item of amount `a` (R127)? -/
def OT.accepts (o : Order) (a : Nat) : Option Message :=
  if 40 ≤ o.items.length then some .orderFull
  else if 9999999 < o.total + a then some .priceLimit
  else none

/-- An order with an item appended (R127). -/
def Order.append (i : Item) (o : Order) : Order :=
  { o with
    items := o.items ++ [i], total := o.total + i.amount, lastStation := some i.station,
    state := if o.state = .called then .opened else o.state }

/-- An item is appended to the order in a slot; the call record of a CALLED order becomes not present (R113, R127). -/
def OT.append (i : SlotNo) (o : Order) (item : Item) (s : State) : State :=
  let s1 := s.setOrder i (some (o.append item))
  if o.state = .called then s1.setCall i none else s1

/-- The last non-voided item of a list, voided; the list unchanged when there is none (R130). -/
def voidLast (items : List Item) : List Item :=
  match items.reverse.findIdx? (fun i => !i.voided) with
  | none => items
  | some k => items.modify (items.length - 1 - k) (fun i => { i with voided := true })

/-- An order with its last non-voided item voided (R130). -/
def Order.voidItem (o : Order) : Order :=
  let amount := match (o.live).getLast? with
    | some i => i.amount
    | none => 0
  { o with items := voidLast o.items, total := o.total - amount }

/-! ### Void (R133) -/

/-- The changes of a void, class S room being found (R133). The cause TOTAL tells no station. DT is told by the caller, once the
whole event is made (log 18). -/
def OT.voidNow (i : SlotNo) (o : Order) (cause : VoidCause) (s : State) : State :=
  let station := OT.stationOf o.clerk s
  let s1 := JW.write (.orderVoid o.number o.ticket o.source o.clerk o.state o.items.length cause o.total) s
  let s2 := DT.modAcc (Accumulators.addVoid o.items.length) s1
  let s3 := TU.free o.ticket (s2.setCall i none)
  let s4 := (OT.unbind o.clerk s3).setOrder i none
  match station with
  | none => s4
  | some st => if cause = .total then s4 else SD.report st (Dialogue.orderVoided i) s4

/-- A void asked of OT: whether the journal had room, and the state after (R133, R142). -/
def OT.void (i : SlotNo) (o : Order) (cause : VoidCause) (s : State) : State × Bool :=
  let s1 := JW.ask s
  if JW.roomFor 1 s1 then (DT.reported (OT.voidNow i o cause s1), true) else (s1, false)

/-! ### Finish (R131, R132) -/

/-- The records of a finished order: one ITEM per non-voided item, then ORDER_END (R132). -/
def finishRecords (o : Order) (st : Station) (serial : Nat) : List RecordBody :=
  o.live.map (fun i => .item o.number o.ticket i)
    ++ [.orderEnd o.number o.ticket o.source o.clerk st o.live.length (o.items.length - o.live.length) o.total o.opened
          serial]

/-- An order is finished by TOTAL at a station, its label going to printer `p` (R132). -/
def OT.finish (i : SlotNo) (o : Order) (st : Station) (layout : Layout) (p : PrinterNo) (s : State) : State :=
  let serial := LC.serial s
  let text := composeLabel layout (totalValues o st s.dt.clock.date serial)
  let s1 := JW.writeAll (finishRecords o st serial) (LC.take serial s)
  let s2 := DT.modAcc (fun a => Accumulators.addOrder o.clerk (o.items.length - o.live.length)
    (o.live.foldl (fun a i => a.addItem false i) a)) s1
  let s3 := DT.countLabel (PQ.place p { serial := serial, kind := .total, reprintCount := 0, station := st,
                                        orderNumber := some o.number, text := text } s2)
  DT.reported ((OT.unbind o.clerk (TU.free o.ticket s3)).setOrder i none)

/-- The TOTAL key at a station (R131). -/
def OT.total (st : Station) (s : State) : State :=
  match OT.orderAt s st with
  | none => SD.refuse st .noOrder s
  | some (i, o) =>
    if s.dt.day = .forced then SD.refuse st .closing s
    else if o.state = .called then SD.refuse st .notAllowed s
    else if o.live = [] then
      match OT.void i o .total s with
      | (s1, true) => s1
      | (s1, false) => SD.refuse st .journalFull s1
    else
      let s1 := JW.ask s
      if JW.roomFor (o.live.length + 1) s1 = false then SD.refuse st .journalFull s1
      else match LC.totalLayout s1 with
        | none => SD.refuse st .notAllowed s1
        | some layout =>
          match PQ.choose s1 st with
          | none => SD.refuse st .noPrinter s1
          | some p => OT.finish i o st layout p s1

/-! ### The other order keys (R107, R110, R111, R120, R128 to R130) -/

/-- The CLERK key with the value read from the buffer (R120, R122). -/
def OT.clerkKey (st : Station) (value : Option Nat) (s : State) : State :=
  match value with
  | none =>
    match OT.clerkAt s st with
    | none => SD.refuse st .noClerk s
    | some c => (OT.signOff c s).1
  | some n =>
    if h : 1 ≤ n ∧ n ≤ 32 then
      if (s.clerk ⟨n - 1, by omega⟩).station = some st then s else OT.signOn ⟨n - 1, by omega⟩ st s
    else SD.refuse st .notAllowed s

/-- The NEXT key at a station (R107, R125). -/
def OT.next (st : Station) (s : State) : State :=
  if s.dt.day = .closed then SD.refuse st .dayClosed s
  else if (OT.orderAt s st).isSome then SD.refuse st .notAllowed s
  else if s.dt.day = .forced then SD.refuse st .closing s
  else match s.tu.line with
    | [] => SD.refuse st .lineEmpty s
    | e :: rest =>
      match OT.lowestFree s, OT.clerkAt s st with
      | some i, some c =>
        let s1 := TU.setLine rest s
        let s2 := OT.setSlot c (some i) (OT.create i e.ticket .line .called (some c) s1)
        let k : CallRecord := { timer := none, level := s.tu.settings.chimeLevel, entry := e }
        let s3 := s2.setCall i (some k)
        let s4 := match s3.order i with
          | some o => TU.call i k o s3
          | none => s3
        if rest = [] then DT.reported s4 else s4
      | none, _ => SD.refuse st .ordersFull s
      | some _, none => SD.refuse st .noClerk s

/-- The RECALL key at a station (R110). -/
def OT.recallKey (st : Station) (s : State) : State :=
  match OT.orderAt s st with
  | none => SD.refuse st .noOrder s
  | some (i, o) => if o.state = .called then TU.recall i o s else SD.refuse st .notAllowed s

/-- The SKIP key at a station (R111). -/
def OT.skipKey (st : Station) (s : State) : State :=
  match OT.orderAt s st with
  | none => SD.refuse st .noOrder s
  | some (i, o) => if o.state = .called then OT.skip i o s else SD.refuse st .notAllowed s

/-- The PARK key at a station (R128). -/
def OT.park (st : Station) (s : State) : State :=
  match OT.orderAt s st with
  | none => SD.refuse st .noOrder s
  | some (i, o) =>
    if o.state = .called then SD.refuse st .notAllowed s
    else if o.items = [] then SD.refuse st .noItems s
    else (OT.unbind o.clerk s).setOrder i (some { o with state := .parked, clerk := none })

/-- The slot and the order that hold a ticket. -/
def OT.withTicket (s : State) (ticket : Nat) : Option (SlotNo × Order) :=
  (OT.inUse s).findSome? (fun i => (s.order i).bind (fun o => if o.ticket = ticket then some (i, o) else none))

/-- The slot and the order that hold an order number. -/
def OT.withNumber (s : State) (number : Nat) : Option (SlotNo × Order) :=
  (OT.inUse s).findSome? (fun i => (s.order i).bind (fun o => if o.number = number then some (i, o) else none))

/-- The ORDER key with the value read from the buffer (R129). -/
def OT.orderKey (st : Station) (value : Option Nat) (s : State) : State :=
  if (OT.orderAt s st).isSome then SD.refuse st .notAllowed s
  else match value with
    | none => SD.refuse st .noOrder s
    | some t =>
      if t = 0 ∨ 99 < t then SD.refuse st .noOrder s
      else match OT.withTicket s t, OT.clerkAt s st with
        | none, _ => SD.refuse st .noOrder s
        | some (i, o), some c =>
          if o.state = .parked then
            (OT.setSlot c (some i) s).setOrder i (some { o with state := .opened, clerk := some c })
          else SD.refuse st .orderBusy s
        | some _, none => SD.refuse st .noClerk s

/-- The VOID key at a station (R130). -/
def OT.voidKey (st : Station) (s : State) : State :=
  match OT.orderAt s st with
  | none => SD.refuse st .noOrder s
  | some (i, o) =>
    if o.live = [] then SD.refuse st .noItems s else s.setOrder i (some o.voidItem)

/-! ### The forced stage (R143, R144) -/

/-- The forcing state of the close in flight becomes `f` (R144). -/
def DT.setForcing (f : Forcing) (s : State) : State :=
  { s with dt := { s.dt with close := s.dt.close.map (fun j => { j with forcing := f }) } }

/-- DT asks for a void of the lowest slot in use, and pauses when room is lacking (R144). -/
def DT.forceNext (s : State) : State :=
  match OT.inUse s with
  | [] => s
  | i :: _ =>
    match s.order i with
    | none => s
    | some o =>
      match OT.void i o .close (DT.setForcing .active s) with
      | (s1, true) => s1
      | (s1, false) => DT.setForcing .paused s1

/-- The forced stage begins: every ticket of the line lapses, then the first forced void is asked (R143, log 20). -/
def DT.force (s : State) : State :=
  let s1 := DT.setDay .forced s
  let s2 := DT.reported (TU.lapseAll s1.tu.line s1)
  if s2.dt.day = .forced then DT.forceNext s2 else s2

end Sys2Proof.Machine
end

