-- ==== Sys2Proof/Machine/Display.lean ====
section
/-! DEFINITION. The station display: the weight text (R44), the message line (R27), the content (R45), and when a frame is sent
(R46). -/

namespace Sys2Proof.Machine

open Sys2Proof

/-! ### Weight text (R44) -/

/-- The shown weight of magnitude `g` grams through `ZZ9.999`. -/
def weightDigits (g : Nat) : List EditChar :=
  editWalk weightPattern (List.replicate (6 - (digitsOf g).length) 0 ++ digitsOf g) true

/-- The text of a shown weight of `mg` milligrams: kilograms with three decimals, a minus sign left of the first printed digit
(R44). -/
def shownText (mg : Int) : List Byte :=
  let walk := weightDigits (mg.natAbs / 1000)
  let text := walk.map EditChar.char
  if mg < 0 then
    match walk.findIdx? EditChar.printed with
    | some (j + 1) => text.set j 0x2D
    | some 0 => text
    | none => text
  else text

/-- The weight text of a channel's report (R44). -/
def weightText (ch : Channel) : List Byte :=
  match ch.state with
  | .motion | .stable => shownText (ch.shown.getD 0)
  | .zeroing => List.replicate 7 0x2D
  | .over => [0x20, 0x20, 0x20, 0x4F, 0x56, 0x45, 0x52]
  | .under => [0x20, 0x20, 0x55, 0x4E, 0x44, 0x45, 0x52]
  | .none => blanks 7

/-! ### Message line and content (R27, R45) -/

/-- The message line of a dialogue (R27). -/
def Dialogue.messageLine (d : Dialogue) : Option Message :=
  if d.noShow then some .noShow
  else if d.transient.isSome then d.transient
  else if d.pendingAction ≠ .none then some .pending
  else if d.zeroFailure then some .noZero
  else none

/-- The content of a station's display as composed now (R45). -/
def SD.content (st : Station) (s : State) : DisplayContent :=
  let ch := s.channel st
  let d := s.dialogue st
  { weightText := weightText ch, zeroLit := ch.zeroLit, netLit := ch.netLit, range := ch.range,
    stableLit := ch.state == .stable, repeatLit := d.repeatOn, run := d.mode,
    unitPrice := d.selection.map PluRecord.unitPrice, liveAmount := PU.liveAmount s.pu.fault d.selection ch,
    message := d.messageLine, clerk := clerkNumber (OT.clerkAt s st),
    ticket := match OT.orderAt s st with
      | some (_, o) => o.ticket
      | none => 0,
    echo := (s.link (stationLink st)).lastKey }

/-! ### Sending (R46) -/

/-- The display is composed; a content that differs from the last display is handed to LK while the link is UP (R46). -/
def SD.refresh (st : Station) (s : State) : State :=
  if s.linkUp (stationLink st) then
    let content := SD.content st s
    if (s.dialogue st).lastDisplay = some content then s
    else (LK.hand (stationLink st) (.display content) s).modDialogue st
      (fun d => { d with lastDisplay := some content })
  else s

/-- The displays of the told stations are composed, in station order, and no station is told any more (R46, log 11). -/
def SD.flush (s : State) : State :=
  { stations.foldl (fun s st => if s.told[st] then SD.refresh st s else s) s
    with told := Vector.replicate 8 false }

end Sys2Proof.Machine
end

