-- ==== Sys2Proof/Machine/Dialogue.lean ====
section
/-! DEFINITION. The Station Dialogue: the item commit (R36, R37), the weight report (R27, R34, R40), the sample arrival (R9 to R16,
R21), the keys (R26, R28 to R33, R39), the re-lookup (R42), and the events of the station's link and settings (R3 to R5,
R7, R8, R43, R47). -/

namespace Sys2Proof.Machine

open Sys2Proof

/-! ### The item commit (R36, R37) -/

/-- The refusal of the day check, for a commit and for a PRINT key (R33, R36). -/
def dayRefusal : DayState → Option Message
  | .closed => some .dayClosed
  | .forced => some .closing
  | .opened => none
  | .waiting => none

/-- Where a commit at a station goes, an automatic one always loose; `none` when a loose item is not allowed (R36, step 3; R40). -/
def SD.destination (st : Station) (auto : Bool) (s : State) : Option (Option (SlotNo × Order)) :=
  match (if auto then none else OT.orderAt s st), (s.channel st).settings with
  | some x, _ => some (some x)
  | none, some c => if c.looseAllowed then some none else none
  | none, none => none

/-- The item record of an admitted commit (R37, step 2). -/
def SD.item (st : Station) (p : Priced) (number serial : Nat) (s : State) : Item :=
  { number := number, plu := p.record.plu, kind := p.record.kind, epoch := p.epoch, department := p.record.department,
    net := p.net, count := p.count, tare := p.tare, unitPrice := p.record.unitPrice, markdown := p.record.markdown,
    amount := p.amount, serial := serial, station := st, clerk := OT.clerkAt s st, pricedAt := s.dt.clock,
    voided := false }

/-- The item takes its place: in the order, or in the journal and the accumulators (R37, steps 3 and 4). -/
def SD.placeItem (dest : Option (SlotNo × Order)) (item : Item) (s : State) : State :=
  match dest with
  | some (i, o) => OT.append i o item s
  | none => DT.modAcc (Accumulators.addItem true item) (JW.write (.item 0 0 item) s)

/-- The effects of an admitted commit (R37). -/
def SD.accept (st : Station) (auto : Bool) (dest : Option (SlotNo × Order)) (p : Priced) (layout : Layout)
    (printer : PrinterNo) (s : State) : State :=
  let serial := LC.serial s
  let order := dest.map Prod.snd
  let text := composeLabel layout (itemValues p order (OT.clerkAt s st) st s.dt.clock.date serial)
  let number := match order with
    | some o => o.items.length + 1
    | none => 1
  let s1 := DT.countLabel (PQ.place printer
    { serial := serial, kind := .item, reprintCount := 0, station := st, orderNumber := order.map Order.number,
      text := text } (LC.take serial s))
  let s2 := SD.placeItem dest (SD.item st p number serial s) s1
  let s3 := if auto || (s2.dialogue st).repeatOn then s2 else SD.deselect st s2
  s3.modDialogue st (fun d => { d.cancelPending with transient := none })

/-- Steps 5 and 6 of R36 on a priced item, and the admission. The message is that of the refusal, if any. -/
def SD.settleCommit (st : Station) (auto : Bool) (dest : Option (SlotNo × Order)) (p : Priced) (s : State) :
    State × Option Message :=
  let place := match dest with
    | some (_, o) => (s, OT.accepts o p.amount)
    | none =>
      let s1 := JW.ask s
      (s1, if JW.roomFor 1 s1 then none else some Message.journalFull)
  match place.2 with
  | some m => (place.1, some m)
  | none =>
    match LC.layout place.1 p.record.layout, PQ.choose place.1 st with
    | none, _ => (place.1, some .notAllowed)
    | some _, none => (place.1, some .noPrinter)
    | some layout, some printer => (SD.accept st auto dest p layout printer place.1, none)

/-- The item commit (R36): the state after it and the message of a refusal. `value` is the buffer value PRINT read. -/
def SD.commit (st : Station) (auto : Bool) (value : Option Nat) (s : State) : State × Option Message :=
  match dayRefusal s.dt.day with
  | some m => (s, some m)
  | none =>
    if s.pu.fault then (s, some .priceFault)
    else match SD.destination st auto s, (s.dialogue st).selection with
      | none, _ => (s, some .notAllowed)
      | some _, none => (s, some .noPlu)
      | some dest, some sel =>
        match PU.find sel.plu s with
        | (s1, .absent) => (s1, some .noPlu)
        | (s1, .invalid) => (s1, some .priceFault)
        | (s1, .found r) =>
          match PU.price s1.pu.epoch sel.kind (s1.channel st) value r with
          | .error m => (s1, some m)
          | .ok p => SD.settleCommit st auto dest p s1

/-- A commit whose refusal is shown as the transient message (R33, R34). -/
def SD.commitShown (st : Station) (value : Option Nat) (s : State) : State :=
  match SD.commit st false value s with
  | (s1, none) => s1
  | (s1, some m) => SD.refuse st m s1

/-! ### The weight report (R27, R34, R40) -/

/-- R34: a pending print is settled on an arrival's report. -/
def SD.settlePrint (st : Station) (s : State) : State :=
  let budget := (s.dialogue st).pendingBudget - 1
  let s1 := s.modDialogue st (fun d => { d with pendingBudget := budget })
  match (s.channel st).state with
  | .stable => SD.commitShown st none (s1.modDialogue st Dialogue.cancelPending)
  | .over => s1.modDialogue st (fun d => d.cancelPending.say .over)
  | .under => s1.modDialogue st (fun d => d.cancelPending.say .under)
  | .motion => if budget = 0 then s1.modDialogue st (fun d => d.cancelPending.say .unstable) else s1
  | .zeroing | .none => s1

/-- The report shows a weight below the minimum weight in MOTION or STABLE (R40). -/
def Channel.belowMinimum (ch : Channel) : Bool :=
  match ch.settings, ch.shown with
  | some c, some w => (ch.state == .motion || ch.state == .stable) && decide (w < c.cal.minimum)
  | _, _ => false

/-- The report shows a STABLE weight at or above the minimum weight (R40). -/
def Channel.loaded (ch : Channel) : Bool :=
  match ch.settings, ch.shown with
  | some c, some w => ch.state == .stable && decide (c.cal.minimum ≤ w)
  | _, _ => false

/-- R40: a station in RUN mode is examined on its channel's report. -/
def SD.examineRun (st : Station) (s : State) : State :=
  match (s.dialogue st).mode with
  | .normal => s
  | .runDisarmed =>
    if (s.channel st).belowMinimum then s.modDialogue st (fun d => { d with mode := .runArmed }) else s
  | .runArmed =>
    if (s.channel st).loaded then
      match SD.commit st true none s with
      | (s1, none) => s1.modDialogue st (fun d => { d with mode := .runDisarmed })
      | (s1, some m) => s1.modDialogue st (fun d => d.leaveRun.say m)
    else s

/-- SD takes a weight report: zero failure and message (R27), the pending print at an arrival (R34), RUN (R40), and the display
(R46). -/
def SD.weightReport (st : Station) (arrival : Bool) (msg : Option Message) (noZero : Bool) (s : State) : State :=
  let state := (s.channel st).state
  let s1 := s.modDialogue st (fun d => { d with
    zeroFailure := if noZero then true else if state = .zeroing then d.zeroFailure else false
    transient := if msg.isSome then msg else d.transient })
  let s2 := if arrival = true ∧ (s1.dialogue st).pendingAction = .print then SD.settlePrint st s1 else s1
  SD.tell st (SD.examineRun st s2)

/-! ### The sample arrival (R9 to R16, R21) -/

/-- R21: a pending tare is settled on the channel an arrival has left; the dialogue, the channel and the message. -/
def SD.settleTare (c : Calibration) (d : Dialogue) (ch : Channel) : Dialogue × Channel × Option Message :=
  if d.pendingAction ≠ .tare then (d, ch, none)
  else match ch.state with
    | .stable =>
      match WE.takeTare c ch with
      | .changed ch1 => (d.cancelPending, ch1, none)
      | .refused m => (d.cancelPending, ch, some m)
      | .idle | .noZero _ | .pend => (d.cancelPending, ch, none)
    | .over => (d.cancelPending, ch, some .over)
    | .under => (d.cancelPending, ch, some .under)
    | .motion =>
      if d.pendingBudget ≤ 1 then (d.cancelPending, ch, some .unstable)
      else ({ d with pendingBudget := d.pendingBudget - 1 }, ch, none)
    | .zeroing | .none => (d, ch, none)

/-- A SAMPLE arrival at a station's channel, whole, and the report that follows (R9 to R16, R21). In NONE it is discarded (R9). -/
def SD.arrival (st : Station) (gap : Bool) (raw : Int) (s : State) : State :=
  match (s.channel st).settings with
  | none => s
  | some c =>
    if (s.channel st).state = .none then s
    else
      let arrived := WE.arrive c gap raw (s.channel st)
      let settled := SD.settleTare c.cal (s.dialogue st) arrived.1
      let ch := if settled.2.1.state = .zeroing then settled.2.1 else WE.indicate c.cal settled.2.1
      SD.weightReport st true settled.2.2 arrived.2
        ((s.setChannel st ch).modDialogue st (fun _ => settled.1))

/-! ### Keys (R26, R28 to R33, R39) -/

/-- The value of the buffer, and the state with it emptied (R28). -/
def SD.readBuffer (st : Station) (s : State) : Option Nat × State :=
  (bufferValue (s.dialogue st).buffer, s.modDialogue st (fun d => { d with buffer := [] }))

/-- R28: a digit. -/
def SD.digitKey (st : Station) (digit : Fin 10) (s : State) : State :=
  s.modDialogue st (fun d => if d.buffer.length < 6 then { d with buffer := d.buffer ++ [digit] } else d)

/-- R32: the CLEAR key. -/
def SD.clearKey (st : Station) (s : State) : State :=
  let d := s.dialogue st
  if d.noShow then s.modDialogue st (fun d => { d with noShow := false, buffer := [] })
  else if d.buffer ≠ [] then
    s.modDialogue st (fun d => { d.cancelPending.leaveRun with buffer := [] })
  else if d.pendingAction ≠ .none ∨ d.mode ≠ .normal then s.modDialogue st (fun d => d.cancelPending.leaveRun)
  else if d.selection.isSome then
    (SD.deselect st s).modDialogue st (fun d => { d with repeatOn := false })
  else s

/-- The effects of a selection (R30). -/
def SD.select (st : Station) (r : PluRecord) (s : State) : State :=
  let preset := WE.preset r (s.channel st)
  let allowed := match (s.channel st).settings with
    | some c => c.repeatAllowed
    | none => false
  (s.setChannel st preset.1).modDialogue st (fun d =>
    { (d.cancelPrint.leaveRun) with
      selection := some r, repeatOn := r.repeatDefault && allowed
      transient := if preset.2 then some .tareLimit else d.transient })

/-- R30: the PLU key. -/
def SD.pluKey (st : Station) (s : State) : State :=
  let read := SD.readBuffer st s
  if s.pu.fault then SD.refuse st .priceFault read.2
  else match read.1 with
    | none => SD.refuse st .noPlu read.2
    | some n =>
      match PU.find n read.2 with
      | (s1, .absent) => SD.refuse st .noPlu s1
      | (s1, .invalid) => SD.refuse st .priceFault s1
      | (s1, .found r) => SD.select st r s1

/-- R31: the REPEAT key. -/
def SD.repeatKey (st : Station) (s : State) : State :=
  match (s.dialogue st).selection, (s.channel st).settings with
  | some _, some c =>
    if c.repeatAllowed then s.modDialogue st (fun d => { d with repeatOn := !d.repeatOn })
    else SD.refuse st .notAllowed s
  | _, _ => SD.refuse st .notAllowed s

/-- What a key at the channel comes to is carried out: a refusal, a report, or the pending tare (R17 to R20). -/
def SD.keyOutcome (st : Station) (printWait : Nat) (s : State) : KeyOutcome → State
  | .refused m => SD.refuse st m s
  | .idle => s
  | .changed ch => SD.weightReport st false none false (s.setChannel st ch)
  | .noZero ch => SD.weightReport st false none true (s.setChannel st ch)
  | .pend => s.modDialogue st (fun d => { d with pendingAction := .tare, pendingBudget := printWait })

/-- The ZERO key past its pre-check (R17, R18). -/
def SD.zeroKey (st : Station) (s : State) : State :=
  if (s.dialogue st).pendingAction ≠ .none then SD.refuse st .pending s
  else match (s.channel st).settings with
    | none => SD.refuse st .notAllowed s
    | some c => SD.keyOutcome st c.printWait s (WE.zeroKey c (s.channel st))

/-- The TARE key with its pre-checks (R19, R20, R29). -/
def SD.tareKey (st : Station) (s : State) : State :=
  let d := s.dialogue st
  if s.dt.day = .closed then SD.refuse st .dayClosed s
  else if d.pendingAction = .print then SD.refuse st .pending s
  else match (s.channel st).settings with
    | none => SD.refuse st .notAllowed s
    | some c =>
      SD.keyOutcome st c.printWait s (WE.tareKey c.cal (d.pendingAction == .tare) (s.channel st))

/-- The refusal of a PRINT of a WEIGHED PLU by the weight state (R33). -/
def printRefusal : WeightState → Option Message
  | .zeroing => some .noZero
  | .over => some .over
  | .under => some .under
  | .motion | .stable | .none => none

/-- An accepted PRINT stops the call timer of the CALLED order of the clerk at the station (R33, R113). -/
def SD.stopCall (st : Station) (s : State) : State :=
  match OT.orderAt s st with
  | some (i, o) => if o.state = .called then TU.stopTimer i s else s
  | none => s

/-- R33 past the cases that leave the buffer: `value` is the value the key read. -/
def SD.printSelected (st : Station) (value : Option Nat) (sel : PluRecord) (c : Settings) (s : State) : State :=
  match dayRefusal s.dt.day with
  | some m => SD.refuse st m s
  | none =>
    if s.pu.fault then SD.refuse st .priceFault s
    else if (OT.orderAt s st).isNone ∧ c.looseAllowed = false then SD.refuse st .notAllowed s
    else
      match (if sel.kind = .weighed then printRefusal (s.channel st).state else none) with
      | some m => SD.refuse st m s
      | none =>
        let s1 := SD.stopCall st s
        if sel.kind = .weighed ∧ (s.channel st).state = .motion then
          s1.modDialogue st (fun d => { d with
            pendingAction := .print, pendingBudget := c.printWait
            pendingDest := some (match OT.orderAt s st with
              | some (i, _) => .slot i
              | none => .loose) })
        else SD.commitShown st value s1

/-- The PRINT key with its pre-check (R29, R33). An ignored PRINT changes nothing, the buffer included (log 17). -/
def SD.printKey (st : Station) (s : State) : State :=
  let d := s.dialogue st
  if d.noShow then SD.refuse st .noShow s
  else if d.mode ≠ .normal ∨ d.pendingAction = .print then s
  else
    let read := SD.readBuffer st s
    if d.pendingAction = .tare then SD.refuse st .pending read.2
    else match d.selection, (s.channel st).settings with
      | none, _ => SD.refuse st .noPlu read.2
      | some _, none => SD.refuse st .notAllowed read.2
      | some sel, some c => SD.printSelected st read.1 sel c read.2

/-- The RUN key with its pre-check (R29, R39); on entry the current report is examined for arming. -/
def SD.runKey (st : Station) (s : State) : State :=
  let d := s.dialogue st
  if d.noShow then SD.refuse st .noShow s
  else if d.mode ≠ .normal then s.modDialogue st Dialogue.leaveRun
  else if d.pendingAction ≠ .none then SD.refuse st .pending s
  else if s.dt.day = .closed then SD.refuse st .dayClosed s
  else match (s.channel st).settings, d.selection with
    | some c, some sel =>
      if c.runAllowed = false ∨ c.looseAllowed = false then SD.refuse st .notAllowed s
      else if sel.kind ≠ .weighed then SD.refuse st .notAllowed s
      else if (OT.orderAt s st).isSome then SD.refuse st .notAllowed s
      else SD.examineRun st (s.modDialogue st (fun d => { d with mode := .runDisarmed }))
    | _, _ => SD.refuse st .notAllowed s

/-- The pre-checks PENDING, NO CLERK and NOT ALLOWED in RUN mode, made in that order, each where the key's row has it (R29). -/
def SD.precheck (pending run : Bool) (st : Station) (s : State) : Option Message :=
  if pending = true ∧ (s.dialogue st).pendingAction ≠ .none then some .pending
  else if (OT.clerkAt s st).isNone then some .noClerk
  else if run = true ∧ (s.dialogue st).mode ≠ .normal then some .notAllowed
  else none

/-- A key with those pre-checks is refused, or handled by `f` (R29). -/
def SD.checked (pending run : Bool) (st : Station) (f : State → State) (s : State) : State :=
  match SD.precheck pending run st s with
  | some m => SD.refuse st m s
  | none => f s

/-- The CLERK key: the buffer is read, and OT takes the key (R28, R120, R122). -/
def SD.clerkKey (st : Station) (s : State) : State :=
  let read := SD.readBuffer st s
  OT.clerkKey st read.1 read.2

/-- The ORDER key past its pre-checks: the buffer is read, and OT takes the key (R28, R129). -/
def SD.orderKey (st : Station) (s : State) : State :=
  let read := SD.readBuffer st s
  OT.orderKey st read.1 read.2

/-- The rule of a key at an ENABLED station (R29). -/
def SD.key (st : Station) : Key → State → State
  | .digit n => SD.digitKey st n
  | .clear => SD.clearKey st
  | .plu => SD.pluKey st
  | .repeatKey => SD.repeatKey st
  | .zero => SD.zeroKey st
  | .tare => SD.tareKey st
  | .print => SD.printKey st
  | .run => SD.runKey st
  | .clerk => SD.clerkKey st
  | .next => SD.checked true true st (OT.next st)
  | .recall => SD.checked false false st (OT.recallKey st)
  | .skip => SD.checked false false st (OT.skipKey st)
  | .order => SD.checked true true st (SD.orderKey st)
  | .park => SD.checked true false st (OT.park st)
  | .total => SD.checked true false st (OT.total st)
  | .void => SD.checked false false st (OT.voidKey st)

/-- A delivered key is taken whole (R26): the transient message becomes none; a DISABLED station refuses it; the display
follows. -/
def SD.takeKey (st : Station) (k : Key) (s : State) : State :=
  let s1 := s.modDialogue st (fun d => { d with transient := none })
  SD.tell st (if (s.channel st).enabled then SD.key st k s1 else SD.refuse st .notAllowed s1)

/-! ### The re-lookup after a switch (R42) -/

/-- The selection a re-lookup finds is taken (R42). -/
def Dialogue.reselect (old r : PluRecord) (d : Dialogue) : Dialogue :=
  if r.kind = old.kind then { d with selection := some r }
  else if r.kind = .weighed then { d.cancelPrint with selection := some r }
  else { d.cancelPrint.leaveRun with selection := some r }

/-- A PLU that is gone is deselected (R42). -/
def SD.pluGone (st : Station) (s : State) : State :=
  (SD.deselect st s).modDialogue st (fun d => { d.cancelPrint.leaveRun.say .pluGone with repeatOn := false })

/-- The re-lookup of a told channel (R42), its display composed whatever it finds (R46); a channel that no switch has told makes none
(log 6). -/
def SD.reLookup (st : Station) (s : State) : State :=
  if (s.dialogue st).relookup then
    let s1 := s.modDialogue st (fun d => { d with relookup := false })
    match (s.dialogue st).selection with
    | none => SD.tell st s1
    | some sel =>
      match PU.find sel.plu s1 with
      | (s2, .found r) => SD.report st (Dialogue.reselect sel r) s2
      | (s2, .absent) => SD.tell st (SD.pluGone st s2)
      | (s2, .invalid) => SD.tell st (SD.pluGone st s2)
  else s

/-! ### The station's link and settings (R3 to R5, R7, R8, R43, R47) -/

/-- What a link loss and a disable do at SD (R43). -/
def Dialogue.lost (d : Dialogue) : Dialogue := { d.cancelPending.leaveRun with buffer := [] }

/-- A link-up of a station's link (R7, R43, R179). -/
def SD.linkUp (st : Station) (s : State) : State :=
  let s1 := s.modLink (stationLink st) (fun k => { k with lastSample := none, lastKey := none })
  let s2 := s1.setChannel st (WE.restart true (s1.channel st))
  SD.weightReport st false none false (s2.modDialogue st (fun d => { d with lastDisplay := none }))

/-- A link loss of a station's link (R8, R43, R124, R179). -/
def SD.linkLoss (st : Station) (s : State) : State :=
  let s1 := (s.setChannel st (WE.toNone (s.channel st))).modDialogue st Dialogue.lost
  SD.weightReport st false none false (OT.loseStation st s1)

/-- What a station becoming DISABLED does beside its channel: as a link loss, and the PLU is deselected (R43, R124). -/
def SD.disabled (st : Station) (s : State) : State :=
  OT.loseStation st ((SD.deselect st s).modDialogue st (fun d => { d.lost with repeatOn := false }))

/-- The channel goes to NONE, DISABLED, with its load status (R4, R8, R47). -/
def SD.disable (st : Station) (load : LoadStatus) (s : State) : State :=
  let was := (s.channel st).enabled
  let s1 := s.setChannel st { WE.toNone (s.channel st) with load := load, enabled := false }
  SD.weightReport st false none false (if was then SD.disabled st s1 else s1)

/-- The STATION_EVENT of a failed settings record, with the STATION flag (R3). -/
def SD.settingsEvent (st : Station) (reason : StationReason) (fieldNo : Nat) (s : State) : State :=
  NU.set .station (JW.offerI (.stationEvent reason (some st) fieldNo 0 0 0 0) s)

/-- The settings of a valid record come into force (R3, R5). -/
def WE.install (c : Settings) (ch : Channel) : Channel :=
  { ch with load := .loaded, enabled := c.enabled, settings := some c, heldCal := some c.cal }

/-- The record of a station in counter memory (1.2). -/
def SD.record (st : Station) (s : State) : Except (StationReason × Nat) Settings :=
  checkSettings (readSettings s.mem (s.settingsBase + 64 * st.val))

/-- The load of a station at START (R3). -/
def SD.loadStation (s : State) (st : Station) : State :=
  match SD.record st s with
  | .ok c => s.setChannel st (WE.install c (s.channel st))
  | .error (reason, n) =>
    SD.settingsEvent st reason n
      (s.setChannel st { s.channel st with load := .failed, enabled := false, settings := none, heldCal := none })

/-- A reload that R4 admits (R5). -/
def SD.reload (st : Station) (c : Settings) (s : State) : State :=
  let was := (s.channel st).enabled
  let up := s.linkUp (stationLink st)
  let s1 := s.setChannel st (WE.restart up (WE.install c (s.channel st)))
  let s2 := s1.modDialogue st (fun d => d.cancelPending.leaveRun)
  SD.weightReport st false none false (if was = true ∧ c.enabled = false then SD.disabled st s2 else s2)

/-- What RELOAD_STATION comes to. -/
inductive ReloadResult where
  | loaded
  | disabled
  | settingsCrc
  | settingsField (n : Nat)
  | calLocked
  deriving DecidableEq, Repr

/-- A change of calibration is refused without SERVICE (R4, check 2). -/
def SD.calLocked (st : Station) (c : Settings) (s : State) : Bool :=
  match (s.channel st).heldCal with
  | some k => decide (k ≠ c.cal) && !s.service
  | none => false

/-- RELOAD_STATION of a station (R4). -/
def SD.reloadStation (st : Station) (s : State) : State × ReloadResult :=
  match SD.record st s with
  | .error (reason, n) =>
    (SD.settingsEvent st reason n (SD.disable st .failed s),
      if reason = .settingsCrc then .settingsCrc else .settingsField n)
  | .ok c =>
    if SD.calLocked st c s then (s, .calLocked)
    else (SD.reload st c s, if c.enabled then .loaded else .disabled)

/-- STATION_MODE ENABLE of a LOADED, DISABLED station (R47). -/
def SD.enable (st : Station) (s : State) : State :=
  let up := s.linkUp (stationLink st)
  SD.weightReport st false none false
    (s.setChannel st (WE.restart up { s.channel st with enabled := true }))

end Sys2Proof.Machine
end

