-- ==== Sys2Proof/Machine/LinkEvents.lean ====
section
/-! DEFINITION. The Link Controller towards the owners: link-up and link loss (R179), HELLO (R177), silence (R178), the frames of each
class (R180 to R182), the receiver's dispatch (R175), and the transmitter (R176). -/

namespace Sys2Proof.Machine

open Sys2Proof

/-! ### Link-up and link loss (R179) -/

/-- A link-up is reported to the owners (R92, R109, R179). -/
def LK.reportUp (l : LinkNo) (s : State) : State :=
  if h : l.val < 8 then SD.linkUp ⟨l.val, h⟩ s
  else if l.val = 8 then PQ.linkUp 0 s
  else if l.val = 9 then PQ.linkUp 1 s
  else if l.val = 10 then s.modLink l (fun k => { k with lastTake := none, lastTakeAnswer := none })
  else TU.sendList s

/-- A link loss is reported to the owners (R93, R104, R109, R179). -/
def LK.reportLoss (l : LinkNo) (s : State) : State :=
  if h : l.val < 8 then SD.linkLoss ⟨l.val, h⟩ s
  else if l.val = 8 then PQ.linkLoss 0 s
  else if l.val = 9 then PQ.linkLoss 1 s
  else if l.val = 10 then TU.dispenserEvent .linkDown none s
  else s

/-! ### HELLO (R177) -/

/-- The queue length a MISMATCH record carries (R177). -/
def LK.queueLength (l : LinkNo) (s : State) : Nat :=
  if l.val = 8 then (s.printer 0).queue.length else if l.val = 9 then (s.printer 1).queue.length else 0

/-- The record and the flag of an entry into MISMATCH (R177). -/
def LK.mismatchEvent (l : LinkNo) (cls : Byte) (s : State) : State :=
  if h : l.val < 8 then
    NU.set .station (JW.offerI
      (.stationEvent .mismatch (some ⟨l.val, h⟩) 0 0 0 (expectedClass l).code cls.toNat) s)
  else NU.set .printer (JW.offerI (.printerEvent l .mismatch none 0 (LK.queueLength l s)) s)

/-- The link takes a new state, its silence timer starting from now (R177). -/
def LK.enter (l : LinkNo) (state : LinkState) (s : State) : State :=
  LK.startSilence l (s.modLink l (fun k => { k with state := state }))

/-- The WELCOME of a HELLO (R177). -/
def LK.welcome (l : LinkNo) (accepted : Bool) (s : State) : State :=
  LK.join l (.welcome l (expectedClass l) accepted) s

/-- The outgoing list is emptied (R176). -/
def LK.emptyOut (l : LinkNo) (s : State) : State := s.modLink l (fun k => { k with out := [] })

/-- A good HELLO is taken (R177). A restart reports a loss and a link-up while the link is UP, so its outgoing list stands and the WELCOME joins
it at its tail; an entry into MISMATCH leaves UP and empties the list (R176). -/
def LK.takeHello (l : LinkNo) (cls : Byte) (s : State) : State :=
  let s1 := (LK.goodFrame l s).modLink l (fun k => { k with classHeard := some cls })
  match (s.link l).state, decide (cls.toNat = (expectedClass l).code) with
  | .down, true => LK.reportUp l (LK.welcome l true (LK.enter l .up s1))
  | .down, false => LK.mismatchEvent l cls (LK.welcome l false (LK.enter l .mismatch s1))
  | .up, true => LK.reportUp l (LK.welcome l true (LK.reportLoss l s1))
  | .up, false =>
    LK.welcome l false (LK.mismatchEvent l cls (LK.reportLoss l (LK.enter l .mismatch (LK.emptyOut l s1))))
  | .mismatch, true => LK.reportUp l (LK.welcome l true (LK.enter l .up s1))
  | .mismatch, false => LK.welcome l false s1

/-- A HELLO on an open link; the links are open in RUNNING (R174, R177). -/
def LK.hello (l : LinkNo) (cls : Byte) (s : State) : State := if s.running then LK.takeHello l cls s else s

/-! ### The other frames (R175, R178, R180 to R182) -/

/-- A good frame on an open link: the timer restarts, and in UP the frame is delivered by `f` (R175, R177, R178). -/
def LK.take (l : LinkNo) (f : State → State) (s : State) : State :=
  if s.running then
    if s.linkUp l then f (LK.goodFrame l s) else LK.goodFrame l s
  else s

/-- An ALIVE frame (10.4). -/
def LK.alive (l : LinkNo) (s : State) : State := LK.take l (fun s => s) s

/-- The arrival is a gap: the last sequence is present and this one is not the next (R180). -/
def isGap (last : Option Byte) (seq : Byte) : Bool :=
  match last with
  | none => false
  | some q => seq != q + 1

/-- A SAMPLE in UP (R180). -/
def LK.deliverSample (st : Station) (raw : BitVec 24) (seq : Byte) (s : State) : State :=
  SD.arrival st (isGap (s.link (stationLink st)).lastSample seq) raw.toInt
    (s.modLink (stationLink st) (fun k => { k with lastSample := some seq }))

/-- A SAMPLE frame (R180). -/
def LK.sample (st : Station) (raw : BitVec 24) (seq : Byte) (s : State) : State :=
  LK.take (stationLink st) (LK.deliverSample st raw seq) s

/-- A KEY in UP: a resend is discarded by its sequence (R180). -/
def LK.deliverKey (st : Station) (seq : Byte) (k : Key) (s : State) : State :=
  if (s.link (stationLink st)).lastKey = some seq then s
  else SD.takeKey st k (s.modLink (stationLink st) (fun l => { l with lastKey := some seq }))

/-- A KEY frame (R180). -/
def LK.key (st : Station) (seq : Byte) (k : Key) (s : State) : State :=
  LK.take (stationLink st) (LK.deliverKey st seq k) s

/-- A TAKE in UP: a resend has the last answer sent again (R182). -/
def LK.deliverTake (seq : Byte) (s : State) : State :=
  let k := s.link dispenserLink
  if k.lastTake = some seq then
    match k.lastTakeAnswer with
    | some f => LK.hand dispenserLink f s
    | none => s
  else TU.take (s.modLink dispenserLink (fun k => { k with lastTake := some seq }))

/-- A TAKE frame (R182). -/
def LK.takeFrame (seq : Byte) (s : State) : State := LK.take dispenserLink (LK.deliverTake seq) s

/-- A PAPER_OUT frame (R104, R182). -/
def LK.paperOut (s : State) : State := LK.take dispenserLink (TU.dispenserEvent .fault (some .paperOut)) s

/-- A DONE frame (R87, R181). -/
def LK.done (p : PrinterNo) (serial : Nat) (s : State) : State := LK.take (printerLink p) (PQ.done p serial) s

/-- A FAULT frame (R89, R181). -/
def LK.fault (p : PrinterNo) (reason : Byte) (s : State) : State :=
  LK.take (printerLink p) (PQ.fault p (faultReason reason)) s

/-- A READY frame (R90, R181). -/
def LK.ready (p : PrinterNo) (s : State) : State := LK.take (printerLink p) (PQ.ready p) s

/-! ### Silence (R178) -/

/-- The silence timer of a link expires; one that does not run does not expire (R178, log 6). A frame in collection is kept
(R175). -/
def LK.silenceExpiry (l : LinkNo) (s : State) : State :=
  if s.running = true ∧ (s.link l).silence.isSome = true then
    let s1 := s.modLink l (fun k => { k with state := .down, silence := none })
    if (s.link l).state = .up then LK.reportLoss l (LK.emptyOut l s1) else s1
  else s

/-! ### The receiver's dispatch (R175, 11.7) -/

/-- A frame of a station's link that is neither HELLO nor ALIVE (10.4). -/
def LK.dispatchStation (st : Station) (kind : Nat) (payload : List Byte) (s : State) : State :=
  let l := stationLink st
  if kind = 0x10 ∧ payload.length = 4 then
    LK.sample st (BitVec.ofNat 24 (leNat (payload.take 3))) (payload.getD 3 0) s
  else if kind = 0x11 ∧ payload.length = 2 then
    match keyOfCode (payload.getD 0 0).toNat with
    | some k => LK.key st (payload.getD 1 0) k s
    | none => LK.alive l s
  else LK.alive l s

/-- A frame of a printer's link (10.4). -/
def LK.dispatchPrinter (p : PrinterNo) (kind : Nat) (payload : List Byte) (s : State) : State :=
  if kind = 0x21 ∧ payload.length = 4 then LK.done p (leNat payload) s
  else if kind = 0x22 ∧ payload.length = 1 then LK.fault p (payload.getD 0 0) s
  else if kind = 0x23 ∧ payload.length = 1 then LK.ready p s
  else LK.alive (printerLink p) s

/-- A frame of the dispenser's link (10.4). -/
def LK.dispatchDispenser (kind : Nat) (payload : List Byte) (s : State) : State :=
  if kind = 0x30 ∧ payload.length = 1 then LK.takeFrame (payload.getD 0 0) s
  else if kind = 0x31 ∧ payload.length = 1 then LK.paperOut s
  else LK.alive dispenserLink s

/-- A good frame is taken by its kind, the class of its link and its length; any other frame restarts the timer and is discarded
(R175). -/
def LK.dispatch (l : LinkNo) (frame : Byte × List Byte) (s : State) : State :=
  let kind := frame.1.toNat
  let payload := frame.2
  if kind = 0x01 ∧ payload.length = 1 then LK.hello l (payload.getD 0 0) s
  else if h : l.val < 8 then LK.dispatchStation ⟨l.val, h⟩ kind payload s
  else if l.val = 8 then LK.dispatchPrinter 0 kind payload s
  else if l.val = 9 then LK.dispatchPrinter 1 kind payload s
  else if l.val = 10 then LK.dispatchDispenser kind payload s
  else LK.alive l s

/-- Bytes come in on a line: each good frame the receiver finds is taken in turn, an event of its own after which the told displays
are composed (R46), and the rest stays in collection; the bytes of a closed link are discarded (R174, R175, log 16). -/
def LK.bytesIn (l : LinkNo) (bytes : List Byte) (s : State) : State :=
  if s.running then
    let found := receive (s.link l).rx bytes
    (found.1.foldl (fun s f => SD.flush (LK.dispatch l f s)) s).modLink l (fun k => { k with rx := found.2 })
  else s

/-! ### The transmitter (R176) -/

/-- The frame at the head of the outgoing list has been sent (R176). -/
def LK.frameSent (l : LinkNo) (s : State) : State :=
  if s.running then s.modLink l (fun k => { k with out := k.out.tail }) else s

end Sys2Proof.Machine
end

