-- ==== Sys2Proof/Machine/Requests.lean ====
section
/-! DEFINITION. The nineteen requests as their owners take them (R166, steps 4 to 6, and R167): each answers an outcome and result words
(R168, 11.3). -/

namespace Sys2Proof.Machine

open Sys2Proof

/-! ### Answers (R166, step 7; 11.3) -/

/-- An answer: its outcome, the index of a bad parameter, and the result words A1 to A6 in order, those not listed 0. -/
structure Answer where
  outcome : OutcomeCode
  bad : Nat
  results : List Nat
  deriving DecidableEq, Repr

/-- DONE with result words. -/
def Answer.done (results : List Nat) : Answer := { outcome := .done, bad := 0, results := results }

/-- BAD_PARAM with the index of the parameter. -/
def Answer.badParam (i : Nat) : Answer := { outcome := .badParam, bad := i, results := [] }

/-- An outcome without result words. -/
def Answer.of (o : OutcomeCode) : Answer := { outcome := o, bad := 0, results := [] }

/-- The answer half of a slot: bytes 32 to 63 (11.3). -/
def Answer.bytes (a : Answer) : List Byte :=
  padTo 32 (field 4 a.outcome.code ++ field 4 a.bad ++ a.results.flatMap (field 4))

/-- A request as LU has read it: its identification, its kind and its parameter words P1 to P7. -/
structure Request where
  id : RequestId
  kind : Nat
  params : List Nat
  deriving DecidableEq, Repr

/-- Parameter word `i`, counted from 1. -/
def Request.p (r : Request) (i : Nat) : Nat := r.params.getD (i - 1) 0

/-- A packed word of four bytes (11.3). -/
def packed (b0 b1 b2 b3 : Nat) : Nat := b0 % 256 + 256 * (b1 % 256) + 65536 * (b2 % 256) + 16777216 * (b3 % 256)

/-- A signed value as a 32-bit word. -/
def signedWord (x : Int) : Nat := (BitVec.ofInt 32 x).toNat

/-- The station a parameter names. -/
def stationOf (n : Nat) : Option Station := if h : n < 8 then some ⟨n, h⟩ else none

/-- The printer a parameter names. -/
def printerOf (n : Nat) : Option PrinterNo := if h : n < 2 then some ⟨n, h⟩ else none

/-- The link a parameter names. -/
def linkOf (n : Nat) : Option LinkNo := if h : n < 12 then some ⟨n, h⟩ else none

/-- The clerk a parameter names, 1 to 32. -/
def clerkOf (n : Nat) : Option (Fin 32) := if h : 1 ≤ n ∧ n ≤ 32 then some ⟨n - 1, by omega⟩ else none

/-! ### DT (R139 to R141, R147, R153) -/

/-- The clock that a date word and a time word spell; the index of the parameter that fails (R139). -/
def clockOf (date time : Nat) : Except Nat Stamp :=
  if (dateOfWord date).valid = false then .error 1
  else if 86399 < time then .error 2
  else .ok { date := dateOfWord date, time := time }

/-- The changes of an OPEN_DAY that is DONE (R140). -/
def DT.openNow (t : Stamp) (s : State) : State :=
  let s1 := { s with
    dt := { s.dt with clock := t, businessDate := t.date, openedAt := t }
    ot := { s.ot with next := 1 }
    lc := { s.lc with nextSerial := 1, recent := [] }
    tu := { s.tu with next := 1, serving := [] } }
  let s2 := DT.setDay .opened (TU.sendList s1)
  JW.offerC (.dayOpen s2.dt.openedAt s2.pu.active s2.pu.epoch s2.pu.count) s2

/-- OPEN_DAY (R140). -/
def serveOpenDay (r : Request) (s : State) : State × Answer :=
  match clockOf (r.p 1) (r.p 2) with
  | .error i => (s, .badParam i)
  | .ok t =>
    if JW.reservationMet 1 s = false then (s, .of .busy)
    else if s.dt.day ≠ .closed then (s, .of .wrongState)
    else
      match PU.checkActive s with
      | (s1, some f) =>
        (s1, { outcome := .priceFault, bad := 0, results := [f.reason.code, f.index, f.field] })
      | (s1, none) => (DT.openNow t s1, .done [])

/-- A close starts: the forced stage begins at once with a deadline of 0; an empty counter closes at once (R141). -/
def DT.startClose (id : RequestId) (deadline area : Nat) (s : State) : State :=
  let j : CloseJob := { request := id, area := area, deadline := if deadline = 0 then none else some (60 * deadline),
                        forcing := .idle }
  let s1 := DT.setDay .waiting { s with dt := { s.dt with close := some j } }
  if deadline = 0 then DT.force s1 else DT.reported s1

/-- CLOSE_DAY (R141). -/
def serveCloseDay (r : Request) (s : State) : State × Answer :=
  if 240 < r.p 1 then (s, .badParam 1)
  else if MP.areaGood s (r.p 2) = false then (s, .badParam 2)
  else if JW.reservationMet 2 s = false then (s, .of .busy)
  else match s.dt.day with
    | .closed => (s, .of .wrongState)
    | .waiting | .forced => (s, .of .busy)
    | .opened => (DT.startClose r.id (r.p 1) (r.p 2) s, .of .started)

/-- The changes of a cancel (R147). -/
def DT.cancel (j : CloseJob) (s : State) : State :=
  let s1 := JW.offerC (.opDone j.request 2 .cancelled none) { s with dt := { s.dt with close := some j.stop } }
  DT.setDay .opened { s1 with dt := { s1.dt with close := none } }

/-- CANCEL_CLOSE (R147). -/
def serveCancelClose (_r : Request) (s : State) : State × Answer :=
  match s.dt.day, s.dt.close with
  | .closed, _ => (s, .of .tooLate)
  | .opened, _ => (s, .of .wrongState)
  | .waiting, some j | .forced, some j => (DT.cancel j s, .done [])
  | .waiting, none | .forced, none => (DT.setDay .opened s, .done [])

/-- SET_CLOCK (R139). -/
def serveSetClock (r : Request) (s : State) : State × Answer :=
  match clockOf (r.p 1) (r.p 2) with
  | .error i => (s, .badParam i)
  | .ok t => ({ s with dt := { s.dt with clock := t } }, .done [])

/-- READ_TOTALS (R153). -/
def serveReadTotals (r : Request) (s : State) : State × Answer :=
  if MP.areaGood s (r.p 1) = false then (s, .badParam 1)
  else (DT.writeTotals true (r.p 1) s, .done [s.dt.acc.grand.amount % 4294967296, s.dt.acc.grand.amount / 4294967296])

/-! ### PU (R53, R54) -/

/-- A validation job starts (R53, R54). -/
def PU.startJob (j : PriceJob) (id : RequestId) (s : State) : State :=
  { s with pu := { s.pu with job := some j, jobRequest := some id } }

/-- SWITCH_PRICES (R53). -/
def serveSwitchPrices (r : Request) (s : State) : State × Answer :=
  if 1 < r.p 1 then (s, .badParam 1)
  else if JW.reservationMet 2 s = false ∨ s.pu.job.isSome then (s, .of .busy)
  else
    (PU.startJob { type := .switch, bank := if r.p 1 = 0 then .a else .b, count := r.p 2,
                   crc := BitVec.ofNat 32 (r.p 3) } r.id s, .of .started)

/-- CHECK_PRICES (R54). -/
def serveCheckPrices (r : Request) (s : State) : State × Answer :=
  if JW.reservationMet 1 s = false ∨ s.pu.job.isSome then (s, .of .busy)
  else match s.pu.active with
    | none => (s, .of .wrongState)
    | some bank =>
      (PU.startJob { type := .check, bank := bank, count := s.pu.count, crc := s.pu.crc } r.id s, .of .started)

/-! ### WE and SD (R4, R47, R48) -/

/-- The answer of a reload (R4, 11.3). -/
def ReloadResult.answer : ReloadResult → Answer
  | .loaded => .done [0, 0]
  | .disabled => .done [1, 0]
  | .settingsCrc => .done [2, 0]
  | .settingsField n => .done [3, n]
  | .calLocked => .of .calLocked

/-- RELOAD_STATION (R4). -/
def serveReloadStation (r : Request) (s : State) : State × Answer :=
  match stationOf (r.p 1) with
  | none => (s, .badParam 1)
  | some st => ((SD.reloadStation st s).1, (SD.reloadStation st s).2.answer)

/-- The effect of an action of STATION_MODE at a station (R47). -/
def SD.modeAction (st : Station) (action : Nat) (s : State) : State :=
  let ch := s.channel st
  if action = 0 then (if ch.load ≠ .loaded ∨ ch.enabled = true then s else SD.enable st s)
  else if action = 1 then (if ch.enabled then SD.disable st ch.load s else s)
  else if action = 2 then s.modDialogue st Dialogue.leaveRun
  else s.modDialogue st (fun d => { d with transient := none, noShow := false })

/-- STATION_MODE at a station's SD (R47): the action's effect and its answer. SD takes the request whatever its effect, so the display is
composed (R46). -/
def SD.stationMode (st : Station) (action : Nat) (s : State) : State × Answer :=
  (SD.tell st (SD.modeAction st action s),
    if action = 0 ∧ (s.channel st).load ≠ .loaded then .of .wrongState else .done [])

/-- STATION_MODE (R47). -/
def serveStationMode (r : Request) (s : State) : State × Answer :=
  match stationOf (r.p 1) with
  | none => (s, .badParam 1)
  | some st => if 3 < r.p 2 then (s, .badParam 2) else SD.stationMode st (r.p 2) s

/-- The result words of READ_STATION (R48, 11.3); the tare is that of the channel in every weight state (log 26). -/
def SD.readWords (st : Station) (s : State) : List Nat :=
  let ch := s.channel st
  let d := s.dialogue st
  [packed (s.link (stationLink st)).state.code ch.enabled.toNat ch.load.code ch.state.code,
   signedWord (ch.shown.getD 0 / 1000),
   ch.tareKind.code + 256 * grams ch.tare,
   (match d.selection with
    | some r => r.plu
    | none => 0),
   packed (clerkNumber (OT.clerkAt s st)) (match OT.orderAt s st with
    | some (_, o) => o.ticket
    | none => 0) d.repeatOn.toNat d.mode.code,
   packed d.pendingAction.code (messageCode d.messageLine) 0 0]

/-- READ_STATION (R48). -/
def serveReadStation (r : Request) (s : State) : State × Answer :=
  match stationOf (r.p 1) with
  | none => (s, .badParam 1)
  | some st => (s, .done (SD.readWords st s))

/-! ### PQ (R95, R96) -/

/-- A job with the serial stands in either queue (R95). -/
def PQ.queued (s : State) (serial : Nat) : Bool :=
  (s.printer 0).queue.any (fun j => j.serial == serial) || (s.printer 1).queue.any (fun j => j.serial == serial)

/-- REPRINT at the named printer (R95). -/
def PQ.reprint (serial : Nat) (p : PrinterNo) (s : State) : State × Answer :=
  if s.dt.day = .closed then (s, .of .wrongState)
  else match s.lc.recent.find? (fun e => e.serial == serial) with
    | none => (s, .of .notFound)
    | some e =>
      if PQ.queued s serial then (s, .of .busy)
      else if queueCapacity ≤ (s.printer p).queue.length then (s, .of .full)
      else (DT.countReprint (PQ.placeReprint p (reprintJob e) s), .done [(reprintJob e).reprintCount])

/-- REPRINT (R95). -/
def serveReprint (r : Request) (s : State) : State × Answer :=
  if ¬(1 ≤ r.p 1 ∧ r.p 1 ≤ 999999) then (s, .badParam 1)
  else match printerOf (r.p 2) with
    | none => (s, .badParam 2)
    | some p => PQ.reprint (r.p 1) p s

/-- PRINTER_CLEAR (R96). -/
def servePrinterClear (r : Request) (s : State) : State × Answer :=
  match printerOf (r.p 1) with
  | none => (s, .badParam 1)
  | some p => (PQ.clear p s, .done [(s.printer p).queue.length])

/-! ### TU (R105, R106) -/

/-- ISSUE_TICKET (R105). -/
def serveIssueTicket (_r : Request) (s : State) : State × Answer :=
  if s.dt.day ≠ .opened then (s, .of .wrongState)
  else if TU.lineFull s then (s, .of .full)
  else (TU.issue .host s, .done [TU.number s.tu, s.tu.line.length + 1])

/-- The line without a ticket's entry (R101). -/
def lineWithout (ticket : Nat) (line : List LineEntry) : List LineEntry := line.filter (fun e => e.ticket != ticket)

/-- A ticket is dropped from the line; TU reports a line that has become empty (R102, R106, R142). -/
def TU.drop (e : LineEntry) (s : State) : State :=
  let s1 := TU.lapse .dropped e (TU.setLine (lineWithout e.ticket s.tu.line) s)
  if s1.tu.line = [] then DT.reported s1 else s1

/-- LINE_EDIT on an entry of the line (R106). -/
def TU.edit (action : Nat) (e : LineEntry) (s : State) : State × Answer :=
  let rest := lineWithout e.ticket s.tu.line
  if action = 0 then (TU.setLine (e :: rest) s, .done [rest.length + 1]) else (TU.drop e s, .done [rest.length])

/-- LINE_EDIT (R106). -/
def serveLineEdit (r : Request) (s : State) : State × Answer :=
  if 1 < r.p 1 then (s, .badParam 1)
  else if ¬(1 ≤ r.p 2 ∧ r.p 2 ≤ 99) then (s, .badParam 2)
  else match s.tu.line.find? (fun e => e.ticket == r.p 2) with
    | none => (s, .of .notFound)
    | some e => TU.edit (r.p 1) e s

/-! ### OT (R123, R126, R134, R136) -/

/-- OPEN_ORDER (R126). -/
def serveOpenOrder (_r : Request) (s : State) : State × Answer :=
  if s.dt.day ≠ .opened then (s, .of .wrongState)
  else match OT.lowestFree s with
    | none => (s, .of .full)
    | some i =>
      (OT.create i (TU.number s.tu) .host .parked none { s with tu := TU.allocate s.tu },
        .done [OT.number s, TU.number s.tu, i.val])

/-- VOID_ORDER (R134). -/
def serveVoidOrder (r : Request) (s : State) : State × Answer :=
  if ¬(1 ≤ r.p 1 ∧ r.p 1 ≤ 9999) then (s, .badParam 1)
  else match OT.withNumber s (r.p 1) with
    | none => (s, .of .notFound)
    | some (i, o) =>
      match OT.void i o .request s with
      | (s1, true) => (s1, .done [o.items.length, o.total])
      | (s1, false) => (s1, .of .journalFull)

/-- CLERK_OFF (R123). -/
def serveClerkOff (r : Request) (s : State) : State × Answer :=
  match clerkOf (r.p 1) with
  | none => (s, .badParam 1)
  | some c =>
    ((OT.signOff c s).1,
      .done ((OT.signOff c s).2.code :: (match OT.orderOf s c with
        | some (_, o) => [o.number, o.ticket]
        | none => [0, 0])))

/-- The code of a clerk's state: OFF 0, AT_STATION 1, AWAY 2 (R117, 11.3). DESIGN CHOICE: 0 for an order that has no clerk, whose clerk
state R136 does not name (log 40). -/
def OT.clerkState (s : State) (clerk : Option (Fin 32)) : Nat :=
  match clerk with
  | none => 0
  | some c => if (s.clerk c).station.isSome then 1 else if (s.clerk c).slot.isSome then 2 else 0

/-- The result words of READ_ORDER (R136, 11.3). -/
def OT.readWords (i : SlotNo) (o : Order) (s : State) : List Nat :=
  [packed i.val o.ticket o.source.code o.state.code,
   packed (clerkNumber o.clerk) (OT.clerkState s o.clerk) o.items.length (o.items.length - o.live.length),
   o.total, o.opened, packed o.callCount (match o.lastStation with
    | some st => st.val
    | none => 8) 0 0]

/-- READ_ORDER (R136). -/
def serveReadOrder (r : Request) (s : State) : State × Answer :=
  if ¬(1 ≤ r.p 1 ∧ r.p 1 ≤ 9999) then (s, .badParam 1)
  else match OT.withNumber s (r.p 1) with
    | none => (s, .of .notFound)
    | some (i, o) => (s, .done (OT.readWords i o s))

/-! ### LK (R184) -/

/-- The printer whose link a link is. -/
def linkPrinter (l : LinkNo) : Option PrinterNo := if l.val = 8 then some 0 else if l.val = 9 then some 1 else none

/-- The result words of READ_EQUIPMENT (R184, 11.3). -/
def LK.readWords (l : LinkNo) (s : State) : List Nat :=
  let k := s.link l
  let heard := match k.classHeard with
    | none => 0
    | some c => c.toNat
  match linkPrinter l with
  | none => [packed k.state.code heard 0 0, 0, 0]
  | some p =>
    let q := s.printer p
    [packed k.state.code heard q.state.code (stopCode q.stop), q.queue.length,
     match q.queue with
     | [] => 0
     | top :: _ => top.serial]

/-- READ_EQUIPMENT (R184). -/
def serveReadEquipment (r : Request) (s : State) : State × Answer :=
  match linkOf (r.p 1) with
  | none => (s, .badParam 1)
  | some l => (s, .done (LK.readWords l s))

/-! ### The request kinds (R166, step 3; R168) -/

/-- A request is checked and taken by its owner (R166, steps 3 to 6). -/
def serve (r : Request) (s : State) : State × Answer :=
  match r.kind with
  | 1 => serveOpenDay r s
  | 2 => serveCloseDay r s
  | 3 => serveCancelClose r s
  | 4 => serveSetClock r s
  | 5 => serveReadTotals r s
  | 6 => serveSwitchPrices r s
  | 7 => serveCheckPrices r s
  | 8 => serveReloadStation r s
  | 9 => serveStationMode r s
  | 10 => serveReadStation r s
  | 11 => serveReprint r s
  | 12 => servePrinterClear r s
  | 13 => serveIssueTicket r s
  | 14 => serveLineEdit r s
  | 15 => serveOpenOrder r s
  | 16 => serveVoidOrder r s
  | 17 => serveClerkOff r s
  | 18 => serveReadOrder r s
  | 19 => serveReadEquipment r s
  | _ => (s, .of .unknownKind)

end Sys2Proof.Machine
end

