-- ==== Sys2Proof/Machine/Lanes.lean ====
section
/-! DEFINITION. The Lane Unit: the lanes' counts and check (R162), re-arming (R163), wakes (R164), the sweep (R165) and the taking of a
request (R166). -/

namespace Sys2Proof.Machine

open Sys2Proof

/-! ### Lanes (9.5, 11.2) -/

/-- Offset of a lane's six directory words (11.2). -/
def Lane.words : Lane → Nat
  | .urgent => 16
  | .routine => 40

/-- What LU holds of a lane. -/
def State.lane (s : State) : Lane → LaneState
  | .urgent => s.lu.urgent
  | .routine => s.lu.routine

/-- The state with a lane changed. -/
def State.modLane (ln : Lane) (f : LaneState → LaneState) (s : State) : State :=
  match ln with
  | .urgent => { s with lu := { s.lu with urgent := f s.lu.urgent } }
  | .routine => { s with lu := { s.lu with routine := f s.lu.routine } }

/-- The host's `posted` of a lane, as it stands (R154, R162). -/
def LU.posted (ln : Lane) (s : State) : Count := BitVec.ofNat 16 (MP.read s (ln.words + 8) 4)

/-- The host's `returned` of a lane, as it stands (R154, R162). -/
def LU.returned (ln : Lane) (s : State) : Count := BitVec.ofNat 16 (MP.read s (ln.words + 20) 4)

/-- The lane is consistent: three differences modulo 65,536 are at most its capacity (R162). -/
def LU.consistent (ln : Lane) (s : State) : Bool :=
  let k := s.lane ln
  decide ((LU.posted ln s - LU.returned ln s).toNat ≤ k.capacity
    ∧ (LU.posted ln s - k.taken).toNat ≤ k.capacity
    ∧ (k.answered - LU.returned ln s).toNat ≤ k.capacity)

/-- The lane becomes faulted (R162). -/
def LU.setFault (ln : Lane) (s : State) : State := NU.set .fault (s.modLane ln (fun k => { k with fault := true }))

/-- A sweep looks at a lane: a faulted one is not read, an inconsistent one becomes faulted; whether it has a request to take
(R162, R165). -/
def LU.look (ln : Lane) (s : State) : State × Bool :=
  if (s.lane ln).fault then (s, false)
  else if LU.consistent ln s then (s, LU.posted ln s != (s.lane ln).taken)
  else (LU.setFault ln s, false)

/-! ### Wakes and re-arming (R163, R164) -/

/-- A sweep that begins. -/
def Sweep.start : Sweep := { opened := false, routineTaken := 0 }

/-- A wake or an expiry: a sweep begins, or the sweep-pending flag is set (R164). -/
def LU.wake (s : State) : State :=
  match s.lu.sweep with
  | none => { s with lu := { s.lu with sweep := some Sweep.start } }
  | some _ => { s with lu := { s.lu with sweepPending := true } }

/-- A faulted lane found consistent is re-armed; whether it was (R163). -/
def LU.rearmLane (ln : Lane) (s : State) : State × Bool :=
  if (s.lane ln).fault && LU.consistent ln s then (s.modLane ln (fun k => { k with fault := false }), true)
  else (s, false)

/-- REARM_LANES in RUNNING (R163). -/
def LU.rearm (s : State) : State :=
  let u := LU.rearmLane .urgent s
  let r := LU.rearmLane .routine u.1
  if u.2 || r.2 then LU.wake r.1 else r.1

/-! ### Taking a request (R166) -/

/-- The slot that a lane's taken count names (R166). -/
def LU.slot (k : LaneState) : Nat := k.slotBase + 64 * (k.taken.toNat % k.capacity)

/-- The kind of the request in the slot that taken names (R166, 11.3). DESIGN CHOICE: the kind, whose width 11.3 does not give, is the word
of bytes 0 to 3 (log 44). -/
def LU.kindAt (ln : Lane) (s : State) : Nat := MP.read s (LU.slot (s.lane ln)) 4

/-- The request in the slot that taken names (R166, step 1; 11.3); its kind is the word of bytes 0 to 3 (DESIGN CHOICE, log 44). -/
def LU.request (ln : Lane) (s : State) : Request :=
  let a := LU.slot (s.lane ln)
  { id := { lane := ln, number := (s.lane ln).taken }, kind := MP.read s a 4,
    params := (List.range 7).map (fun i => MP.read s (a + 4 + 4 * i) 4) }

/-- A count word of the part is written, its high half 0 (R154). -/
def LU.writeCount (offset : Nat) (c : Count) (s : State) : State := MP.write offset (field 4 c.toNat) s

/-- Taken is increased and written (R166, step 2). -/
def LU.advanceTaken (ln : Lane) (s : State) : State :=
  LU.writeCount (ln.words + 12) ((s.lane ln).taken + 1) (s.modLane ln (fun k => { k with taken := k.taken + 1 }))

/-- The answer is written, answered is increased and written, and ANSWERED is set (R166, steps 7 and 8). -/
def LU.answer (ln : Lane) (slot : Nat) (a : Answer) (s : State) : State :=
  let s1 := (MP.write (slot + 32) a.bytes s).modLane ln (fun k => { k with answered := k.answered + 1 })
  NU.set .answered (LU.writeCount (ln.words + 16) (s1.lane ln).answered s1)

/-- The sweep in progress counts a ROUTINE request (R165, step 4). -/
def LU.countRoutine (ln : Lane) (s : State) : State :=
  match ln with
  | .urgent => s
  | .routine =>
    { s with lu := { s.lu with
        sweep := s.lu.sweep.map (fun w => { w with routineTaken := w.routineTaken + 1 }) } }

/-- One request is taken from a lane, whole, and the told displays are composed (R166, R46). -/
def LU.takeOne (ln : Lane) (s : State) : State :=
  let r := LU.request ln s
  let slot := LU.slot (s.lane ln)
  let served := serve r (LU.advanceTaken ln s)
  LU.countRoutine ln (SD.flush (LU.answer ln slot served.2 served.1))

/-! ### The sweep (R165) -/

/-- DT resumes a paused forced close (R144, R165). -/
def DT.resume (s : State) : State :=
  match s.dt.close with
  | some j => if j.forcing = .paused then DT.forceNext s else s
  | none => s

/-- Steps 1 and 2 of a sweep, once (R165). -/
def LU.openSweep (s : State) : State :=
  match s.lu.sweep with
  | some w =>
    if w.opened then s
    else
      let s1 := SD.flush (DT.resume (JW.flush s))
      { s1 with lu := { s1.lu with sweep := some { w with opened := true } } }
  | none => s

/-- The lane whose request steps 3 and 4 take next, if any. Step 3 is made before each ROUTINE request that step 4 may still take, so
with the burst taken no request of either lane is (R165). -/
def LU.nextLane (s : State) : State × Option Lane :=
  match s.lu.sweep with
  | none => (s, none)
  | some w =>
    if w.routineTaken < s.lu.routineBurst then
      match LU.look .urgent s with
      | (s1, true) => (s1, some .urgent)
      | (s1, false) =>
        match LU.look .routine s1 with
        | (s2, true) => (s2, some .routine)
        | (s2, false) => (s2, none)
    else (s, none)

/-- Requests are taken until none is left for this sweep; `fuel` bounds their number (R165, steps 3 and 4). -/
def LU.takeAll : Nat → State → State
  | 0, s => s
  | fuel + 1, s =>
    match LU.nextLane s with
    | (s1, some ln) => LU.takeAll fuel (LU.takeOne ln s1)
    | (s1, none) => s1

/-- Step 5: with the burst taken and a ROUTINE request left, sweep-pending is set (R165, log 30). -/
def LU.stepFive (s : State) : State :=
  match s.lu.sweep with
  | none => s
  | some w =>
    if w.routineTaken = s.lu.routineBurst then
      match LU.look .routine s with
      | (s1, true) => { s1 with lu := { s1.lu with sweepPending := true } }
      | (s1, false) => s1
    else s

/-- The sweep ends: a set sweep-pending flag is cleared and a new sweep begins (R164). -/
def LU.endSweep (s : State) : State :=
  if s.lu.sweepPending then { s with lu := { s.lu with sweepPending := false, sweep := some Sweep.start } }
  else { s with lu := { s.lu with sweep := none } }

/-- SWEEP: the sweep in progress is run to its end, and the told displays are composed; without one nothing happens (R165, R46,
log 7). -/
def LU.runSweep (s : State) : State :=
  if s.running = true ∧ s.lu.sweep.isSome = true then
    let s1 := LU.openSweep s
    SD.flush (LU.endSweep (LU.stepFive (LU.takeAll (s1.lu.urgent.capacity + s1.lu.routineBurst + 1) s1)))
  else s

/-- A request row: the sweep in progress takes its next request when that request has the row's kind; otherwise nothing happens
(R165, R166, log 7). -/
def LU.takeRequest (isKind : Nat → Bool) (s : State) : State :=
  if s.running = true ∧ s.lu.sweep.isSome = true then
    match LU.nextLane (LU.openSweep s) with
    | (s1, some ln) => if isKind (LU.kindAt ln s1) then LU.takeOne ln s1 else s
    | (_, none) => s
  else s

end Sys2Proof.Machine
end

