-- ==== Sys2Proof/Machine/Control.lean ====
section
/-! DEFINITION. The part as a whole: the directory (R154), START and its checks and loads (R155, R156), HALT (R158), RESET (R159), the
registers (R157, R160) and the time base (R138, R143, R144). -/

namespace Sys2Proof.Machine

open Sys2Proof

/-! ### The directory (R154, 11.2) -/

/-- The directory as it stands in counter memory (11.2). -/
def readDirectory (m : Memory) : Directory :=
  { signature := m.bytes 0 4, version := m.num 4 4, windowLow := m.num 8 4, windowHigh := m.num 12 4,
    urgentBase := m.num 16 4, urgentCapacity := m.num 20 4, routineBase := m.num 40 4, routineCapacity := m.num 44 4,
    journalBase := m.num 64 4, journalCapacity := m.num 68 4, highMark := m.num 80 4, bankA := m.num 84 4,
    bankB := m.num 88 4, startBank := m.num 92 4, startCount := m.num 96 4, startCrc := m.num 100 4,
    layoutsBase := m.num 104 4, totalLayout := m.num 108 4, settingsBase := m.num 112 4, sweepMs := m.num 116 4,
    routineBurst := m.num 120 4, callTimeout := m.num 124 4, recallLimit := m.num 128 4, skipLimit := m.num 132 4,
    chimeTone := m.num 136 4, chimeLevel := m.num 140 4, envelope := m.num 144 4, printTimeout := m.num 148 4 }

/-! ### The fatal checks (R155) -/

/-- The four characters "EC40". -/
def directorySignature : List Byte := [0x45, 0x43, 0x34, 0x30]

/-- The regions of check 6 (R155). -/
def Directory.regions (d : Directory) : List Region :=
  regionList d.urgentBase d.urgentCapacity d.routineBase d.routineCapacity d.journalBase d.journalCapacity d.settingsBase
    d.layoutsBase d.bankA d.bankB

/-- No two regions of a list share a byte. -/
def disjointRegions : List Region → Bool
  | [] => true
  | r :: rest => rest.all (fun q => !r.overlaps q) && disjointRegions rest

/-- A region ends at or before the end of counter memory, from a multiple of 64 (R155, check 5). -/
def Directory.placed (base n : Nat) : Bool := decide (base % 64 = 0 ∧ base + n ≤ Config.memorySize)

/-- `n` bytes from `base` lie wholly inside the directory's window (R155, check 7). -/
def Directory.inside (d : Directory) (base n : Nat) : Bool := decide (d.windowLow ≤ base ∧ base + n ≤ d.windowHigh)

/-- Check 3 (R155). -/
def Directory.windowGood (d : Directory) : Bool :=
  decide (d.windowLow % 64 = 0 ∧ d.windowHigh % 64 = 0 ∧ d.windowLow < d.windowHigh ∧
    d.windowHigh ≤ Config.memorySize)

/-- Check 4 (R155). -/
def Directory.capacityGood (d : Directory) : Bool :=
  [4, 8, 16, 32, 64].contains d.urgentCapacity && [4, 8, 16, 32, 64].contains d.routineCapacity
    && [32, 64, 128, 256, 512, 1024].contains d.journalCapacity

/-- Check 5 (R155). -/
def Directory.placementGood (d : Directory) : Bool :=
  Directory.placed d.urgentBase (64 * d.urgentCapacity) && Directory.placed d.routineBase (64 * d.routineCapacity)
    && Directory.placed d.journalBase (64 * d.journalCapacity) && Directory.placed d.settingsBase 512

/-- Check 7 (R155): the rings, the journal area, the `taken` and `answered` words of both lanes and the `written` word. -/
def Directory.insideGood (d : Directory) : Bool :=
  d.inside d.urgentBase (64 * d.urgentCapacity) && d.inside d.routineBase (64 * d.routineCapacity)
    && d.inside d.journalBase (64 * d.journalCapacity) && d.inside 28 8 && d.inside 52 8 && d.inside offsetWritten 4

/-- The first fatal check that fails, NONE when all pass (R155). -/
def Directory.check (d : Directory) : StartFault :=
  if d.signature ≠ directorySignature then .signature
  else if d.version ≠ 1 then .version
  else if d.windowGood = false then .window
  else if d.capacityGood = false then .capacity
  else if d.placementGood = false then .placement
  else if disjointRegions d.regions = false then .overlap
  else if d.insideGood = false then .outsideWindow
  else .none

/-! ### STARTING (R156) -/

/-- The ticket settings of the directory, clamped (R98). -/
def Directory.tickets (d : Directory) : TicketSettings :=
  { callTimeout := clamp 5 120 d.callTimeout, recallLimit := clamp 0 3 d.recallLimit,
    skipLimit := clamp 1 3 d.skipLimit, chimeTone := clamp 0 7 d.chimeTone, chimeLevel := clamp 1 8 d.chimeLevel,
    envelope := clamp 0 1 d.envelope == 1 }

/-- The fields the blocks hold until the next START, clamped (R154, R156, step 1). -/
def Directory.hold (d : Directory) (s : State) : State :=
  { s with
    window := some (d.windowLow, d.windowHigh)
    lu := { s.lu with
      urgent := { s.lu.urgent with slotBase := d.urgentBase, capacity := d.urgentCapacity }
      routine := { s.lu.routine with slotBase := d.routineBase, capacity := d.routineCapacity }
      sweepMs := min d.sweepMs 1000, routineBurst := clamp 1 16 d.routineBurst }
    jw := { s.jw with
      base := d.journalBase, capacity := d.journalCapacity, highMark := clamp 1 d.journalCapacity d.highMark }
    pu := { s.pu with bankA := d.bankA, bankB := d.bankB }
    lc := { s.lc with base := d.layoutsBase }
    settingsBase := d.settingsBase
    tu := { s.tu with settings := d.tickets }
    pq := Vector.ofFn (fun p => { s.pq[p] with timeout := clamp 2 30 d.printTimeout }) }

/-- A lane's copies of taken and answered take the value of `returned` and are written (R156, step 2). -/
def LU.startLane (ln : Lane) (s : State) : State :=
  let n := LU.returned ln s
  LU.writeCount (ln.words + 16) n (LU.writeCount (ln.words + 12) n
    (s.modLane ln (fun k => { k with taken := n, answered := n, fault := false })))

/-- The lanes start (R156, step 2). -/
def LU.startLanes (s : State) : State :=
  let s1 := LU.startLane .routine (LU.startLane .urgent s)
  { s1 with lu := { s1.lu with sweepPending := false, sweep := none } }

/-- The journal starts from `collected` (R156, step 3). -/
def JW.startJournal (s : State) : State :=
  let n := BitVec.ofNat 32 (MP.read s offsetCollected 4)
  MP.write offsetWritten (field 4 n.toNat)
    { s with jw := { s.jw with written := n, seq := 1, hold := [], fault := false } }

/-- The loads of STARTING (R156, step 4). -/
def Directory.loads (d : Directory) (s : State) : State :=
  PU.start d.startBank d.startCount (BitVec.ofNat 32 d.startCrc)
    (LC.load d.totalLayout (stations.foldl SD.loadStation s))

/-- The part reaches RUNNING (R156, step 5). -/
def Directory.runs (s : State) : State :=
  { s with part := .running, lu := { s.lu with timerOn := decide (0 < s.lu.sweepMs) } }

/-- STARTING ends, on the directory read at its START: FAULTED by the first failing check (R155), RUNNING otherwise (R156). -/
def startingEnds (s : State) : State :=
  let d := s.directory
  match d.check with
  | .none => Directory.runs (d.loads (JW.startJournal (LU.startLanes (d.hold s))))
  | f => NU.set .fault { s with part := .faulted, startFault := f }

/-! ### HALT and RESET (R158, R159) -/

/-- The reset of R159: every block, and the five registers 0. -/
def State.resetPart (s : State) : State :=
  { s.resetBlocks with part := .halted, startFault := .none, controlError := .none, notice := 0, route := 0 }

/-- The halt of R158. PRICE_FAULT, when set, is cleared with its PRICE flag set (R61); the other NOTICE flags stay (log 21). -/
def State.haltPart (s : State) : State := { (PU.clearFault s).resetBlocks with part := .halted, controlError := .none }

/-- The control error becomes `e` (R157). -/
def State.setError (e : ControlError) (s : State) : State := { s with controlError := e }

/-! ### CONTROL (R157) -/

/-- START written to CONTROL: taken in HALTED, its first step reads the directory (R154, R157). -/
def Control.start (s : State) : State :=
  match s.part with
  | .halted =>
    { s with part := .starting, startFault := .none, controlError := .none, directory := readDirectory s.mem }
  | .starting => s.setError .busy
  | .running => s.setError .already
  | .faulted => s.setError .faulted

/-- HALT written to CONTROL (R157, R158). -/
def Control.halt (s : State) : State :=
  match s.part with
  | .halted => s.setError .already
  | .starting => s.setError .busy
  | .faulted => s.setError .faulted
  | .running =>
    if s.dt.day ≠ .closed then s.setError .dayOpen
    else if s.jw.hold ≠ [] then s.setError .held
    else s.haltPart

/-- REARM_LANES written to CONTROL (R157, R163). -/
def Control.rearm (s : State) : State :=
  match s.part with
  | .halted => s.setError .notRunning
  | .starting => s.setError .busy
  | .faulted => s.setError .faulted
  | .running => LU.rearm (s.setError .none)

/-- A write to CONTROL; none is taken while the RESET pin is held (R157, R159). -/
def Control.write (code : Word) (s : State) : State :=
  if s.resetPin then s
  else if code = 1 then Control.start s
  else if code = 2 then Control.halt s
  else if code = 3 then s.resetPart
  else if code = 4 then Control.rearm s
  else s.setError .unknownCode

/-- A write to WAKE: a wake in RUNNING, ignored otherwise (R160, R164). -/
def Control.wake (s : State) : State := if s.running then LU.wake s else s

/-- A write to NOTICE, ignored while the RESET pin is held (R159, R172). -/
def Control.notice (value : Word) (s : State) : State := if s.resetPin then s else NU.clear value s

/-- A write to NOTICE_ROUTE, ignored while the RESET pin is held (R159, R173, log 22). -/
def Control.route (value : Word) (s : State) : State := if s.resetPin then s else NU.setRoute value s

/-- A write to the register at an offset; an offset with no writable register is ignored (R160, log 36). -/
def Control.register (offset value : Word) (s : State) : State :=
  if offset = 0x04 then Control.write value s
  else if offset = 0x08 then Control.wake s
  else if offset = 0x0C then Control.notice value s
  else if offset = 0x10 then Control.route value s
  else s

/-! ### The time base (R138, R143, R144) -/

/-- One second off a running timer; a timer that has run out waits for its expiry (log 10). -/
def tickTimer (t : Option Nat) : Option Nat := t.map (fun n => n - 1)

/-- One second of the time base: the clock, and the call, print and deadline timers (R138). While the RESET pin is held nothing
runs (log 22). -/
def State.tick (s : State) : State :=
  if s.resetPin then s
  else
    { s with
      dt := { s.dt with
        clock := s.dt.clock.tick, close := s.dt.close.map (fun j => { j with deadline := tickTimer j.deadline }) }
      tu := { s.tu with
        calls := Vector.ofFn (fun i => s.tu.calls[i].map (fun c => { c with timer := tickTimer c.timer })) }
      pq := Vector.ofFn (fun p => { s.pq[p] with timer := tickTimer (s.pq[p]).timer }) }

/-- The sweep timer expires; one that does not run does not expire (R164, log 6). -/
def LU.timerExpiry (s : State) : State := if s.running && s.lu.timerOn then LU.wake s else s

/-- The deadline timer of a close in its waiting stage expires (R143); one that does not run does not expire (log 6). -/
def DT.deadlineExpiry (s : State) : State :=
  match s.dt.close with
  | some j =>
    if s.running = true ∧ s.dt.day = .waiting ∧ j.deadline.isSome = true then
      DT.force { s with dt := { s.dt with close := some { j with deadline := none } } }
    else s
  | none => s

/-- The next forced void of a close that forces (R144); none is due otherwise (log 6, log 20). -/
def DT.forcedVoid (s : State) : State :=
  match s.dt.close with
  | some j =>
    if s.running = true ∧ s.dt.day = .forced ∧ j.forcing = .active then DT.forceNext s else s
  | none => s

/-- A block's event happens in RUNNING only (9.2). -/
def State.whenRunning (f : State → State) (s : State) : State := if s.running then f s else s

end Sys2Proof.Machine
end

