-- ==== Sys2Proof/Machine/HostCommands.lean ====
section
/-! DEFINITION. The commands of the registers and the RESET pin. -/

namespace Sys2Proof.Machine

open Sys2Proof

/-- START (R157). -/
def execStart (s : State) : Host.Outcome State Fault Refusal :=
  .next (Control.write 1 s)

/-- STARTING_COMPLETE (R154 to R156), in STARTING only. -/
def execStartingComplete (s : State) : Host.Outcome State Fault Refusal :=
  .next (if s.part = .starting ∧ s.resetPin = false then SD.flush (startingEnds s) else s)

/-- HALT (R158). -/
def execHalt (s : State) : Host.Outcome State Fault Refusal :=
  .next (Control.write 2 s)

/-- RESET (R159). -/
def execReset (s : State) : Host.Outcome State Fault Refusal :=
  .next (Control.write 3 s)

/-- RESET_PIN: the pin becomes active and is held (R159). -/
def execResetPin (s : State) : Host.Outcome State Fault Refusal :=
  .next ({ s.resetPart with resetPin := true })

/-- REARM_LANES (R163). -/
def execRearmLanes (s : State) : Host.Outcome State Fault Refusal :=
  .next (Control.write 4 s)

/-- CONTROL_UNKNOWN_CODE: any other code written to CONTROL (R157, log 36). -/
def execControlUnknownCode (code : Word) (s : State) : Host.Outcome State Fault Refusal :=
  .next (Control.write code s)

/-- WAKE: the value written is of no account (R160, R164). -/
def execWake (_value : Word) (s : State) : Host.Outcome State Fault Refusal :=
  .next (Control.wake s)

/-- NOTICE_WRITE (R172). -/
def execNoticeWrite (value : Word) (s : State) : Host.Outcome State Fault Refusal :=
  .next (Control.notice value s)

/-- NOTICE_ROUTE_WRITE (R173). -/
def execNoticeRouteWrite (value : Word) (s : State) : Host.Outcome State Fault Refusal :=
  .next (Control.route value s)

/-- REGISTER_WRITE: a register with no row of its own ignores the write (R160, log 36). -/
def execRegisterWrite (offset value : Word) (s : State) : Host.Outcome State Fault Refusal :=
  .next (Control.register offset value s)

/-- SWEEP_TIMER_EXPIRY (R164). -/
def execSweepTimerExpiry (s : State) : Host.Outcome State Fault Refusal :=
  .next (LU.timerExpiry s)

/-- RESET_PIN_RELEASE: the part is HALTED and takes writes again (R159). -/
def execResetPinRelease (s : State) : Host.Outcome State Fault Refusal :=
  .next ({ s with resetPin := false })

end Sys2Proof.Machine
end

