-- ==== Sys2Proof/Machine/KeyCommands.lean ====
section
/-! DEFINITION. The commands of the scale heads' keys. -/

namespace Sys2Proof.Machine

open Sys2Proof

/-- DIGIT (R28). -/
def execKeyDigit (station : Station) (seq : Byte) (digit : Fin 10) (s : State) : Host.Outcome State Fault Refusal :=
  .next (SD.flush (LK.key station seq (.digit digit) s))

/-- CLEAR (R32). -/
def execKeyClear (station : Station) (seq : Byte) (s : State) : Host.Outcome State Fault Refusal :=
  .next (SD.flush (LK.key station seq .clear s))

/-- PLU (R30). -/
def execKeyPlu (station : Station) (seq : Byte) (s : State) : Host.Outcome State Fault Refusal :=
  .next (SD.flush (LK.key station seq .plu s))

/-- REPEAT (R31). -/
def execKeyRepeat (station : Station) (seq : Byte) (s : State) : Host.Outcome State Fault Refusal :=
  .next (SD.flush (LK.key station seq .repeatKey s))

/-- ZERO (R17, R18). -/
def execKeyZero (station : Station) (seq : Byte) (s : State) : Host.Outcome State Fault Refusal :=
  .next (SD.flush (LK.key station seq .zero s))

/-- TARE (R19, R20). -/
def execKeyTare (station : Station) (seq : Byte) (s : State) : Host.Outcome State Fault Refusal :=
  .next (SD.flush (LK.key station seq .tare s))

/-- PRINT (R33). -/
def execKeyPrint (station : Station) (seq : Byte) (s : State) : Host.Outcome State Fault Refusal :=
  .next (SD.flush (LK.key station seq .print s))

/-- RUN (R39). -/
def execKeyRun (station : Station) (seq : Byte) (s : State) : Host.Outcome State Fault Refusal :=
  .next (SD.flush (LK.key station seq .run s))

/-- CLERK (R120, R122). -/
def execKeyClerk (station : Station) (seq : Byte) (s : State) : Host.Outcome State Fault Refusal :=
  .next (SD.flush (LK.key station seq .clerk s))

/-- NEXT (R107). -/
def execKeyNext (station : Station) (seq : Byte) (s : State) : Host.Outcome State Fault Refusal :=
  .next (SD.flush (LK.key station seq .next s))

/-- RECALL (R110). -/
def execKeyRecall (station : Station) (seq : Byte) (s : State) : Host.Outcome State Fault Refusal :=
  .next (SD.flush (LK.key station seq .recall s))

/-- SKIP (R111). -/
def execKeySkip (station : Station) (seq : Byte) (s : State) : Host.Outcome State Fault Refusal :=
  .next (SD.flush (LK.key station seq .skip s))

/-- ORDER (R129). -/
def execKeyOrder (station : Station) (seq : Byte) (s : State) : Host.Outcome State Fault Refusal :=
  .next (SD.flush (LK.key station seq .order s))

/-- PARK (R128). -/
def execKeyPark (station : Station) (seq : Byte) (s : State) : Host.Outcome State Fault Refusal :=
  .next (SD.flush (LK.key station seq .park s))

/-- TOTAL (R131). -/
def execKeyTotal (station : Station) (seq : Byte) (s : State) : Host.Outcome State Fault Refusal :=
  .next (SD.flush (LK.key station seq .total s))

/-- VOID (R130). -/
def execKeyVoid (station : Station) (seq : Byte) (s : State) : Host.Outcome State Fault Refusal :=
  .next (SD.flush (LK.key station seq .void s))

end Sys2Proof.Machine
end

