-- ==== Sys2Proof/Machine/LinkCommands.lean ====
section
/-! DEFINITION. The commands of the equipment links but the keys. -/

namespace Sys2Proof.Machine

open Sys2Proof

/-- HELLO (R177). -/
def execHello (link : LinkNo) (cls : Byte) (s : State) : Host.Outcome State Fault Refusal :=
  .next (SD.flush (LK.hello link cls s))

/-- ALIVE (R175). -/
def execAlive (link : LinkNo) (s : State) : Host.Outcome State Fault Refusal :=
  .next (SD.flush (LK.alive link s))

/-- BAD_FRAME: bytes of a line, as the receiver takes them (R175, log 16). -/
def execBadFrame (link : LinkNo) (bytes : List Byte) (s : State) : Host.Outcome State Fault Refusal :=
  .next (SD.flush (LK.bytesIn link bytes s))

/-- SAMPLE (R180). -/
def execSample (station : Station) (raw : BitVec 24) (seq : Byte) (s : State) : Host.Outcome State Fault Refusal :=
  .next (SD.flush (LK.sample station raw seq s))

/-- DONE (R87). -/
def execPrinterDone (printer : PrinterNo) (serial : Word) (s : State) : Host.Outcome State Fault Refusal :=
  .next (SD.flush (LK.done printer serial.toNat s))

/-- FAULT (R89). -/
def execPrinterFault (printer : PrinterNo) (reason : Byte) (s : State) : Host.Outcome State Fault Refusal :=
  .next (SD.flush (LK.fault printer reason s))

/-- READY (R90). -/
def execPrinterReady (printer : PrinterNo) (s : State) : Host.Outcome State Fault Refusal :=
  .next (SD.flush (LK.ready printer s))

/-- TAKE (R103, R182). -/
def execTake (seq : Byte) (s : State) : Host.Outcome State Fault Refusal :=
  .next (SD.flush (LK.takeFrame seq s))

/-- PAPER_OUT (R104). -/
def execPaperOut (s : State) : Host.Outcome State Fault Refusal :=
  .next (SD.flush (LK.paperOut s))

/-- OUTGOING_FRAME_SENT (R176). -/
def execOutgoingFrameSent (link : LinkNo) (s : State) : Host.Outcome State Fault Refusal :=
  .next (LK.frameSent link s)

end Sys2Proof.Machine
end

