-- ==== Sys2Proof/Machine/RequestCommands.lean ====
section
/-! DEFINITION. The commands of the lanes: the sweep and the requests. -/

namespace Sys2Proof.Machine

open Sys2Proof

/-- SWEEP (R165). -/
def execSweep (s : State) : Host.Outcome State Fault Refusal :=
  .next (LU.runSweep s)

/-- UNKNOWN_KIND: the next request has a kind outside 1 to 19 (R166). -/
def execUnknownKind (s : State) : Host.Outcome State Fault Refusal :=
  .next (LU.takeRequest (fun k => decide (k < 1 ∨ 19 < k)) s)

/-- OPEN_DAY (R140): the next request has kind 1. -/
def execOpenDay (s : State) : Host.Outcome State Fault Refusal :=
  .next (LU.takeRequest (fun k => k == 1) s)

/-- CLOSE_DAY (R141): the next request has kind 2. -/
def execCloseDay (s : State) : Host.Outcome State Fault Refusal :=
  .next (LU.takeRequest (fun k => k == 2) s)

/-- CANCEL_CLOSE (R147): the next request has kind 3. -/
def execCancelClose (s : State) : Host.Outcome State Fault Refusal :=
  .next (LU.takeRequest (fun k => k == 3) s)

/-- SET_CLOCK (R139): the next request has kind 4. -/
def execSetClock (s : State) : Host.Outcome State Fault Refusal :=
  .next (LU.takeRequest (fun k => k == 4) s)

/-- READ_TOTALS (R153): the next request has kind 5. -/
def execReadTotals (s : State) : Host.Outcome State Fault Refusal :=
  .next (LU.takeRequest (fun k => k == 5) s)

/-- SWITCH_PRICES (R53): the next request has kind 6. -/
def execSwitchPrices (s : State) : Host.Outcome State Fault Refusal :=
  .next (LU.takeRequest (fun k => k == 6) s)

/-- CHECK_PRICES (R54): the next request has kind 7. -/
def execCheckPrices (s : State) : Host.Outcome State Fault Refusal :=
  .next (LU.takeRequest (fun k => k == 7) s)

/-- RELOAD_STATION (R4): the next request has kind 8. -/
def execReloadStation (s : State) : Host.Outcome State Fault Refusal :=
  .next (LU.takeRequest (fun k => k == 8) s)

/-- STATION_MODE (R47): the next request has kind 9. -/
def execStationMode (s : State) : Host.Outcome State Fault Refusal :=
  .next (LU.takeRequest (fun k => k == 9) s)

/-- READ_STATION (R48): the next request has kind 10. -/
def execReadStation (s : State) : Host.Outcome State Fault Refusal :=
  .next (LU.takeRequest (fun k => k == 10) s)

/-- REPRINT (R95): the next request has kind 11. -/
def execReprint (s : State) : Host.Outcome State Fault Refusal :=
  .next (LU.takeRequest (fun k => k == 11) s)

/-- PRINTER_CLEAR (R96): the next request has kind 12. -/
def execPrinterClear (s : State) : Host.Outcome State Fault Refusal :=
  .next (LU.takeRequest (fun k => k == 12) s)

/-- ISSUE_TICKET (R105): the next request has kind 13. -/
def execIssueTicket (s : State) : Host.Outcome State Fault Refusal :=
  .next (LU.takeRequest (fun k => k == 13) s)

/-- LINE_EDIT (R106): the next request has kind 14. -/
def execLineEdit (s : State) : Host.Outcome State Fault Refusal :=
  .next (LU.takeRequest (fun k => k == 14) s)

/-- OPEN_ORDER (R126): the next request has kind 15. -/
def execOpenOrder (s : State) : Host.Outcome State Fault Refusal :=
  .next (LU.takeRequest (fun k => k == 15) s)

/-- VOID_ORDER (R134): the next request has kind 16. -/
def execVoidOrder (s : State) : Host.Outcome State Fault Refusal :=
  .next (LU.takeRequest (fun k => k == 16) s)

/-- CLERK_OFF (R123): the next request has kind 17. -/
def execClerkOff (s : State) : Host.Outcome State Fault Refusal :=
  .next (LU.takeRequest (fun k => k == 17) s)

/-- READ_ORDER (R136): the next request has kind 18. -/
def execReadOrder (s : State) : Host.Outcome State Fault Refusal :=
  .next (LU.takeRequest (fun k => k == 18) s)

/-- READ_EQUIPMENT (R184): the next request has kind 19. -/
def execReadEquipment (s : State) : Host.Outcome State Fault Refusal :=
  .next (LU.takeRequest (fun k => k == 19) s)

end Sys2Proof.Machine
end

