-- ==== Sys2Proof/Machine/TimerCommands.lean ====
section
/-! DEFINITION. The commands of the part's own time: completions, ticks and expiries. -/

namespace Sys2Proof.Machine

open Sys2Proof

/-- SWITCH_COMPLETION (R57, R58). -/
def execSwitchCompletion (s : State) : Host.Outcome State Fault Refusal :=
  .next (SD.flush (s.whenRunning PU.completeSwitch))

/-- CHECK_COMPLETION (R58). -/
def execCheckCompletion (s : State) : Host.Outcome State Fault Refusal :=
  .next (SD.flush (s.whenRunning PU.completeCheck))

/-- RE_LOOKUP (R42). -/
def execReLookup (station : Station) (s : State) : Host.Outcome State Fault Refusal :=
  .next (SD.flush (s.whenRunning (SD.reLookup station)))

/-- CLOCK_TICK (R138). -/
def execClockTick (s : State) : Host.Outcome State Fault Refusal :=
  .next (s.tick)

/-- CALL_TIMER_EXPIRY (R112). -/
def execCallTimerExpiry (slot : SlotNo) (s : State) : Host.Outcome State Fault Refusal :=
  .next (SD.flush (s.whenRunning (OT.callExpiry slot)))

/-- PRINT_TIMER_EXPIRY (R91). -/
def execPrintTimerExpiry (printer : PrinterNo) (s : State) : Host.Outcome State Fault Refusal :=
  .next (SD.flush (s.whenRunning (PQ.expire printer)))

/-- DEADLINE_EXPIRY (R143). -/
def execDeadlineExpiry (s : State) : Host.Outcome State Fault Refusal :=
  .next (SD.flush (DT.deadlineExpiry s))

/-- FORCED_VOID (R144). -/
def execForcedVoid (s : State) : Host.Outcome State Fault Refusal :=
  .next (SD.flush (DT.forcedVoid s))

/-- SILENCE_TIMER_EXPIRY (R178). -/
def execSilenceTimerExpiry (link : LinkNo) (s : State) : Host.Outcome State Fault Refusal :=
  .next (SD.flush (LK.silenceExpiry link s))

end Sys2Proof.Machine
end

