-- ==== Sys2Proof/Machine/Dispatch.lean ====
section
/-! DEFINITION. The meaning of every command: one arm per row of spec/opcode_table.json. -/

namespace Sys2Proof.Machine

open Sys2Proof

def exec (i : Instr) (s : State) : Host.Outcome State Fault Refusal :=
  match i with
  | .start => Sys2Proof.Machine.execStart s
  | .startingComplete => Sys2Proof.Machine.execStartingComplete s
  | .halt => Sys2Proof.Machine.execHalt s
  | .reset => Sys2Proof.Machine.execReset s
  | .resetPin => Sys2Proof.Machine.execResetPin s
  | .rearmLanes => Sys2Proof.Machine.execRearmLanes s
  | .controlUnknownCode code => Sys2Proof.Machine.execControlUnknownCode code s
  | .wake value => Sys2Proof.Machine.execWake value s
  | .noticeWrite value => Sys2Proof.Machine.execNoticeWrite value s
  | .noticeRouteWrite value => Sys2Proof.Machine.execNoticeRouteWrite value s
  | .registerWrite offset value => Sys2Proof.Machine.execRegisterWrite offset value s
  | .sweepTimerExpiry => Sys2Proof.Machine.execSweepTimerExpiry s
  | .sweep => Sys2Proof.Machine.execSweep s
  | .unknownKind => Sys2Proof.Machine.execUnknownKind s
  | .openDay => Sys2Proof.Machine.execOpenDay s
  | .closeDay => Sys2Proof.Machine.execCloseDay s
  | .cancelClose => Sys2Proof.Machine.execCancelClose s
  | .setClock => Sys2Proof.Machine.execSetClock s
  | .readTotals => Sys2Proof.Machine.execReadTotals s
  | .switchPrices => Sys2Proof.Machine.execSwitchPrices s
  | .checkPrices => Sys2Proof.Machine.execCheckPrices s
  | .reloadStation => Sys2Proof.Machine.execReloadStation s
  | .stationMode => Sys2Proof.Machine.execStationMode s
  | .readStation => Sys2Proof.Machine.execReadStation s
  | .reprint => Sys2Proof.Machine.execReprint s
  | .printerClear => Sys2Proof.Machine.execPrinterClear s
  | .issueTicket => Sys2Proof.Machine.execIssueTicket s
  | .lineEdit => Sys2Proof.Machine.execLineEdit s
  | .openOrder => Sys2Proof.Machine.execOpenOrder s
  | .voidOrder => Sys2Proof.Machine.execVoidOrder s
  | .clerkOff => Sys2Proof.Machine.execClerkOff s
  | .readOrder => Sys2Proof.Machine.execReadOrder s
  | .readEquipment => Sys2Proof.Machine.execReadEquipment s
  | .switchCompletion => Sys2Proof.Machine.execSwitchCompletion s
  | .checkCompletion => Sys2Proof.Machine.execCheckCompletion s
  | .reLookup st => Sys2Proof.Machine.execReLookup st s
  | .clockTick => Sys2Proof.Machine.execClockTick s
  | .callTimerExpiry slot => Sys2Proof.Machine.execCallTimerExpiry slot s
  | .printTimerExpiry p => Sys2Proof.Machine.execPrintTimerExpiry p s
  | .deadlineExpiry => Sys2Proof.Machine.execDeadlineExpiry s
  | .forcedVoid => Sys2Proof.Machine.execForcedVoid s
  | .silenceTimerExpiry l => Sys2Proof.Machine.execSilenceTimerExpiry l s
  | .hello l c => Sys2Proof.Machine.execHello l c s
  | .alive l => Sys2Proof.Machine.execAlive l s
  | .badFrame l bytes => Sys2Proof.Machine.execBadFrame l bytes s
  | .sample st raw seq => Sys2Proof.Machine.execSample st raw seq s
  | .keyDigit st seq n => Sys2Proof.Machine.execKeyDigit st seq n s
  | .keyClear st seq => Sys2Proof.Machine.execKeyClear st seq s
  | .keyPlu st seq => Sys2Proof.Machine.execKeyPlu st seq s
  | .keyRepeat st seq => Sys2Proof.Machine.execKeyRepeat st seq s
  | .keyZero st seq => Sys2Proof.Machine.execKeyZero st seq s
  | .keyTare st seq => Sys2Proof.Machine.execKeyTare st seq s
  | .keyPrint st seq => Sys2Proof.Machine.execKeyPrint st seq s
  | .keyRun st seq => Sys2Proof.Machine.execKeyRun st seq s
  | .keyClerk st seq => Sys2Proof.Machine.execKeyClerk st seq s
  | .keyNext st seq => Sys2Proof.Machine.execKeyNext st seq s
  | .keyRecall st seq => Sys2Proof.Machine.execKeyRecall st seq s
  | .keySkip st seq => Sys2Proof.Machine.execKeySkip st seq s
  | .keyOrder st seq => Sys2Proof.Machine.execKeyOrder st seq s
  | .keyPark st seq => Sys2Proof.Machine.execKeyPark st seq s
  | .keyTotal st seq => Sys2Proof.Machine.execKeyTotal st seq s
  | .keyVoid st seq => Sys2Proof.Machine.execKeyVoid st seq s
  | .printerDone p serial => Sys2Proof.Machine.execPrinterDone p serial s
  | .printerFault p reason => Sys2Proof.Machine.execPrinterFault p reason s
  | .printerReady p => Sys2Proof.Machine.execPrinterReady p s
  | .take seq => Sys2Proof.Machine.execTake seq s
  | .paperOut => Sys2Proof.Machine.execPaperOut s
  | .outgoingFrameSent l => Sys2Proof.Machine.execOutgoingFrameSent l s
  | .resetPinRelease => Sys2Proof.Machine.execResetPinRelease s

end Sys2Proof.Machine
end

