-- ==== Sys2Proof/Safety.lean ====
section
/-! DEFINITION. What counts as a safe run, and the relations in which the statements of Certificates/Slice0 speak: what may differ after
a command's displays, what a served request leaves, what a written journal record leaves. -/

namespace Sys2Proof.Machine

open Sys2Proof

/-! ### Safe runs -/

/-- An outcome is safe when the part goes on: a next state, no fault, no refusal. -/
def safeOutcome : Host.Outcome State Fault Refusal → Bool
  | .next _ => true
  | .fault _ => false
  | .refused _ => false

/-- `n` steps from `s` are all safe. -/
def safeFor : Nat → State → Prop
  | 0, _ => True
  | n + 1, s => ∃ t, step s = .next t ∧ safeFor n t

/-! ### Bytes of counter memory -/

/-- `x` is one of the `n` bytes from `a` on. -/
def within (a n x : Nat) : Prop := a ≤ x ∧ x < a + n

/-- Every byte that `p` does not name reads as before. -/
def SameBytes (p : Nat → Prop) (s t : State) : Prop := ∀ x, ¬p x → t.mem.get x = s.mem.get x

/-- No byte. -/
def noBytes : Nat → Prop := fun _ => False

/-! ### Displays (R46) -/

/-- `t` is `u` after displays were composed: only the last displays of stations, the outgoing lists of their links and the index of free
values may differ, and no station waits to be told. -/
def OnlyDisplays (u t : State) : Prop :=
  t = { u with sd := t.sd, lk := t.lk, freeIndex := t.freeIndex, told := Vector.replicate 8 false }
    ∧ (∀ st, t.dialogue st = { u.dialogue st with lastDisplay := (t.dialogue st).lastDisplay })
    ∧ (∀ l, t.link l = { u.link l with out := (t.link l).out })
    ∧ ∀ l : LinkNo, 8 ≤ l.val → t.link l = u.link l

/-! ### Requests (R165, R166) -/

/-- The lane has a request that a sweep may take (R162, R165). -/
def LU.hasRequest (ln : Lane) (s : State) : Bool :=
  !(s.lane ln).fault && LU.consistent ln s && LU.posted ln s != (s.lane ln).taken

/-- The lane has nothing for a sweep: it is faulted, or consistent with `posted` equal to taken (R162, R165). -/
def LU.hasNone (ln : Lane) (s : State) : Bool :=
  (s.lane ln).fault || (LU.consistent ln s && LU.posted ln s == (s.lane ln).taken)

/-- The sweep in progress is past its steps 1 and 2 and takes next, from lane `ln`, a request whose kind `isKind` admits (R165). -/
def LU.takes (ln : Lane) (isKind : Nat → Bool) (s : State) : Bool :=
  s.running && LU.hasRequest ln s && isKind (LU.kindAt ln s)
    && s.lu.sweep.any (fun w => w.opened && decide (w.routineTaken < s.lu.routineBurst))
    && match ln with
       | .urgent => true
       | .routine => LU.hasNone .urgent s

/-- Counter memory is in canonical form, and the lane lies as the checks of R155 leave it: its count words and the slot that taken names
inside the window, the slot clear of the directory. -/
def LU.placed (ln : Lane) (s : State) : Bool :=
  s.mem.wf && match s.window with
    | none => false
    | some (lo, hi) =>
      decide (lo ≤ ln.words + 12 ∧ 0 < (s.lane ln).capacity ∧ 256 ≤ (s.lane ln).slotBase
        ∧ (s.lane ln).slotBase + 64 * (s.lane ln).capacity ≤ hi ∧ hi ≤ Config.memorySize)

/-- The bytes LU writes for the request taken next: its answer half, and the `taken` and `answered` words of its lane. -/
def LU.bytes (ln : Lane) (s : State) (x : Nat) : Prop :=
  within (LU.slot (s.lane ln) + 32) 32 x ∨ within (ln.words + 12) 8 x

/-- What LU leaves after serving a request of lane `ln` with the answer `a`: both counts one higher, in LU and in counter memory; the
answer in the slot; the ANSWERED flag; and, beside that, the state `u` that the owner left, its displays composed. Of counter memory
only the bytes above and those of `p` differ (R166). -/
def LU.Served (ln : Lane) (a : Answer) (p : Nat → Prop) (s u t : State) : Prop :=
  t.lu = (LU.countRoutine ln (s.modLane ln (fun k => { k with taken := k.taken + 1, answered := k.answered + 1 }))).lu
    ∧ t.mem.bytes (LU.slot (s.lane ln) + 32) 32 = a.bytes
    ∧ t.mem.num (ln.words + 12) 4 = ((s.lane ln).taken + 1).toNat
    ∧ t.mem.num (ln.words + 16) 4 = ((s.lane ln).answered + 1).toNat
    ∧ SameBytes (fun x => LU.bytes ln s x ∨ p x) s t
    ∧ OnlyDisplays { u with mem := t.mem, lu := t.lu, notice := u.notice ||| 1#8 } t

/-- Parameter word `i` of the request taken next from lane `ln`. -/
def LU.param (ln : Lane) (i : Nat) (s : State) : Nat := (LU.request ln s).p i

/-! ### The journal (R169, R170) -/

/-- The journal is placed as the checks of R155 leave it, its counts are consistent, nothing is held, and `n` records are free. -/
def JW.hasRoom (n : Nat) (s : State) : Bool :=
  s.mem.wf && s.jw.hold.isEmpty && !s.jw.fault && JW.consistent s && decide (n ≤ JW.free s)
    && match s.window with
       | none => false
       | some (lo, hi) =>
         [32, 64, 128, 256, 512, 1024].contains s.jw.capacity && decide (lo ≤ offsetWritten ∧ 256 ≤ s.jw.base ∧ s.jw.base + 64 * s.jw.capacity ≤ hi
           ∧ hi ≤ Config.memorySize)

/-- The counts are consistent, nothing is held, and fewer than `n` records are free. -/
def JW.lacksRoom (n : Nat) (s : State) : Bool :=
  s.jw.hold.isEmpty && !s.jw.fault && JW.consistent s && decide (JW.free s < n)

/-- The journal area is clear of the ring of lane `ln` (R155, check 6). -/
def JW.apart (ln : Lane) (s : State) : Bool :=
  decide ((s.lane ln).slotBase + 64 * (s.lane ln).capacity ≤ s.jw.base
    ∨ s.jw.base + 64 * s.jw.capacity ≤ (s.lane ln).slotBase)

/-- The state with one more record counted: sequence and written advanced, JOURNAL set, JOURNAL_HIGH too when the free room after it is at
most `high_mark` (R170). -/
def JW.counted (s : State) : State :=
  { s with
    jw := { s.jw with seq := JW.nextSeq s.jw.seq, written := s.jw.written + 1 }
    notice := s.notice ||| (if JW.free s ≤ s.jw.highMark + 1 then 6#8 else 2#8) }

/-- The bytes of the next record and of the `written` word. -/
def JW.bytes (s : State) (x : Nat) : Prop := within (JW.place s) 64 x ∨ within offsetWritten 4 x

/-- The next record of `s` stands in the memory of `t` as `r`, stamped with `clock` (R170). -/
def JW.Holds (r : RecordBody) (clock : Stamp) (s t : State) : Prop :=
  t.mem.bytes (JW.place s) 64 = r.encode s.jw.seq clock

/-- The records `rs` stand one after another in the memory of `t`, from the next record of `s` on, stamped with `clock` (R170). -/
def JW.HoldsAll : List RecordBody → Stamp → State → State → Prop
  | [], _, _, _ => True
  | r :: rs, clock, s, t => JW.Holds r clock s t ∧ JW.HoldsAll rs clock (JW.counted s) t

/-- From `s` the records `rs` are written one after another, which leaves `t` (R170, R171). -/
def JW.Wrote : List RecordBody → State → State → Prop
  | [], s, t => t = s
  | r :: rs, s, t =>
    ∃ u, u = { JW.counted s with mem := u.mem } ∧ SameBytes (JW.bytes s) s u ∧ JW.Holds r s.dt.clock s u ∧ JW.Wrote rs u t

/-! ### Frames and keys (R175, R180, R26) -/

/-- A frame of link `l` can be delivered: the part runs and the link is UP. -/
def LK.delivers (l : LinkNo) (s : State) : Bool := s.running && s.linkUp l

/-- A key with sequence `q` reaches SD of an ENABLED station: its frame is delivered and is no resend (R26, R180). -/
def SD.hears (st : Station) (q : Byte) (s : State) : Bool :=
  LK.delivers (stationLink st) s && (s.link (stationLink st)).lastKey != some q && (s.channel st).enabled

/-- The state in which SD handles a key: the silence timer restarted, the sequence held, the transient message none (R26, R175,
R180). -/
def SD.keyed (st : Station) (q : Byte) (s : State) : State :=
  ((LK.goodFrame (stationLink st) s).modLink (stationLink st) (fun k => { k with lastKey := some q })).modDialogue st
    (fun d => { d with transient := none })

end Sys2Proof.Machine
end

