-- ==== Sys2Proof/WellFormed.lean ====
section
/-! DEFINITION. Which commands are well formed: each operand in the range its row gives it. -/

namespace Sys2Proof

/-- A code that R157 names: START 1, HALT 2, RESET 3, REARM_LANES 4. -/
def namedControlCode (code : Word) : Bool :=
  code == 1 || code == 2 || code == 3 || code == 4

/-- The offset of a register whose write has a row of its own: CONTROL, WAKE, NOTICE, NOTICE_ROUTE (9.3). -/
def namedWriteOffset (offset : Word) : Bool :=
  offset == 0x04 || offset == 0x08 || offset == 0x0C || offset == 0x10

/-- A class code of 11.7: SCALE_HEAD 1, PRINTER 2, DISPENSER 3, DISPLAY 4. -/
def namedClassCode (cls : Byte) : Bool :=
  cls == 1 || cls == 2 || cls == 3 || cls == 4

/-- A command is well formed when its operands stay in their row: CONTROL_UNKNOWN_CODE carries no named code,
REGISTER_WRITE no offset that has a row of its own, HELLO one of the four classes. The other operands are in range by
their types. `exec` gives every command a meaning, well formed or not (log 36, log 15). -/
def Instr.wellFormed : Instr → Bool
  | .controlUnknownCode code => !namedControlCode code
  | .registerWrite offset _ => !namedWriteOffset offset
  | .hello _ cls => namedClassCode cls
  | .start | .startingComplete | .halt | .reset | .resetPin | .rearmLanes | .resetPinRelease => true
  | .wake _ | .noticeWrite _ | .noticeRouteWrite _ | .sweepTimerExpiry | .sweep => true
  | .unknownKind | .openDay | .closeDay | .cancelClose | .setClock | .readTotals | .switchPrices
  | .checkPrices | .reloadStation | .stationMode | .readStation | .reprint | .printerClear | .issueTicket
  | .lineEdit | .openOrder | .voidOrder | .clerkOff | .readOrder | .readEquipment => true
  | .switchCompletion | .checkCompletion | .reLookup _ | .clockTick | .callTimerExpiry _ | .printTimerExpiry _
  | .deadlineExpiry | .forcedVoid | .silenceTimerExpiry _ => true
  | .alive _ | .badFrame _ _ | .sample _ _ _ | .outgoingFrameSent _ => true
  | .keyDigit _ _ _ | .keyClear _ _ | .keyPlu _ _ | .keyRepeat _ _ | .keyZero _ _ | .keyTare _ _ | .keyPrint _ _
  | .keyRun _ _ | .keyClerk _ _ | .keyNext _ _ | .keyRecall _ _ | .keySkip _ _ | .keyOrder _ _ | .keyPark _ _
  | .keyTotal _ _ | .keyVoid _ _ => true
  | .printerDone _ _ | .printerFault _ _ | .printerReady _ | .take _ | .paperOut => true

end Sys2Proof
end

