-- ==== Sys2Proof/Certificates/Slice0/Obligations.lean ====
section
/-! DEFINITION. The statements for the provers. Each is about every state, or says under which conditions on the state and the operands it
holds. The relations they use stand in Safety.lean. -/

open Sys2Proof Sys2Proof.Machine

/-! ### The machine as a whole -/

/-- One step takes the command at the front of the queue: it is `exec` of that command on the state with the queue's rest. An empty queue
idles (log 5).
Every command completes: nothing the host, the equipment or a timer does stops the part (log 5). -/
def Obligations.StepRunsTheFrontCommand : Prop :=
  (∀ s : Machine.State,
      (∀ c rest, s.pending = c :: rest → step s = exec c { s with pending := rest })
        ∧ (s.pending = [] → step s = .next s))
  ∧ (∀ (c : Instr) (s : Machine.State), safeOutcome (exec c s) = true)

/-- The canonical form of counter memory: addresses strictly rising and below 262,144, no zero byte listed. Unlisted bytes read 0 (the
model's choice, log 2). -/
def Obligations.EveryStepKeepsTheMemoryForm : Prop :=
  ∀ s t : Machine.State, s.mem.wf = true → step s = .next t → t.mem.wf = true

/-- R161: a step changes no byte that lies outside the write window, neither the window held before it nor the one held after it.
(MP enforces the window at each write: the model's choice, log 4.) -/
def Obligations.WritesLieInsideTheWindow : Prop :=
  ∀ s t : Machine.State, step s = .next t →
    ∀ a, inWindow s.window a = false → inWindow t.window a = false → t.mem.get a = s.mem.get a

/-- The sizes and bounds that the rules give the lists of the part: buffer 6 digits, sample ring 16 counts (with a filter of at most 16), print
queues 16 jobs, recent labels 32, line 64, serving list 4, an order 40 items and a total of 9,999,999 cents, outgoing lists 8 frames, and
the journal hold 4 records with the places that work in flight holds (R167). -/
def listBounds (s : Machine.State) : Prop :=
  (∀ st : Station, (s.dialogue st).buffer.length ≤ 6 ∧ (s.channel st).ring.length ≤ 16
      ∧ ∀ c, (s.channel st).settings = some c → c.filterLen ≤ 16)
    ∧ (∀ p : PrinterNo, (s.printer p).queue.length ≤ 16)
    ∧ s.lc.recent.length ≤ 32 ∧ s.tu.line.length ≤ 64 ∧ s.tu.serving.length ≤ 4
    ∧ (∀ (i : SlotNo) (o : Machine.Order), s.order i = some o → o.items.length ≤ 40 ∧ o.total ≤ 9999999)
    ∧ (∀ l : LinkNo, (s.link l).out.length ≤ 8)
    ∧ s.jw.hold.length + JW.placesInFlight s ≤ 4

/-- Every step keeps the sizes of the part's lists, the bound of an order's total, and the journal hold within 4 records with the places
reserved in it. -/
def Obligations.EveryStepKeepsTheListBounds : Prop :=
  ∀ s t : Machine.State, listBounds s → step s = .next t → listBounds t

/-- The state right after RESET: HALTED, STATUS reads 0, no flag and no route, no window, counter memory in canonical form, every list
empty, every link DOWN, every channel in NONE, every printer DOWN, the clock at 2000-01-01 0 s.
(Counter memory with nothing listed is the model's choice, log 2.) -/
def Obligations.ResetStateMeetsTheInvariants : Prop :=
  State.reset.mem.wf = true ∧ State.reset.statusWord = 0 ∧ State.reset.notice = 0 ∧ State.reset.route = 0
    ∧ State.reset.noteLine = false ∧ State.reset.alertLine = false ∧ State.reset.window = none
    ∧ State.reset.tu.line = [] ∧ State.reset.tu.serving = [] ∧ State.reset.lc.recent = [] ∧ State.reset.jw.hold = []
    ∧ (∀ l : LinkNo, (State.reset.link l).state = .down ∧ (State.reset.link l).out = [])
    ∧ (∀ st : Station, (State.reset.channel st).state = .none ∧ (State.reset.dialogue st).buffer = []
        ∧ (State.reset.dialogue st).mode = .normal ∧ (State.reset.dialogue st).pendingAction = .none)
    ∧ (∀ p : PrinterNo, (State.reset.printer p).state = .down ∧ (State.reset.printer p).queue = [])
    ∧ (∀ i : SlotNo, State.reset.order i = none ∧ State.reset.callRecord i = none)
    ∧ (∀ c : Fin 32, State.reset.clerk c = { station := none, slot := none })
    ∧ State.reset.dt.day = .closed ∧ State.reset.dt.clock = { date := { year := 2000, month := 1, day := 1 }, time := 0 }

/-! ### Registers and the RESET pin -/

/-- R159: a RESET from CONTROL or from the pin gives every block and register its reset value and leaves counter memory; the commands that
wait, the SERVICE input and the count of free values are no part of what it resets. A RESET written while the pin is held is not
taken, and the release changes the pin alone.
R159: while the RESET pin is held, no CONTROL, WAKE or NOTICE write is taken, by its own command or as a register write.
(What is no part of a reset, and the copies that the manual gives no reset value, are the model's choices, logs 13 and 23.) -/
def Obligations.ResetReturnsThePart : Prop :=
  (∀ s : Machine.State,
      (s.resetPin = false →
        exec .reset s = .next { State.reset with
          pending := s.pending, service := s.service, mem := s.mem, freeIndex := s.freeIndex })
      ∧ exec .resetPin s = .next { State.reset with
          pending := s.pending, service := s.service, mem := s.mem, freeIndex := s.freeIndex, resetPin := true }
      ∧ (s.resetPin = true → exec .reset s = .next s)
      ∧ exec .resetPinRelease s = .next { s with resetPin := false })
  ∧ (∀ (s : Machine.State) (v : Word), s.resetPin = true →
      exec .start s = .next s ∧ exec .halt s = .next s ∧ exec .reset s = .next s ∧ exec .rearmLanes s = .next s
        ∧ exec (.controlUnknownCode v) s = .next s ∧ exec (.wake v) s = .next s ∧ exec (.noticeWrite v) s = .next s
        ∧ exec (.registerWrite 0x04 v) s = .next s ∧ exec (.registerWrite 0x08 v) s = .next s
        ∧ exec (.registerWrite 0x0C v) s = .next s)

/-- R157, its table: START, HALT, REARM_LANES and any other code in each part state, but for HALT and REARM_LANES in RUNNING. A refused code
changes the control error alone.
R158: a HALT taken in RUNNING is refused with DAY_OPEN while the day is not CLOSED, then with HELD while the journal hold is not empty;
otherwise every block takes its reset value, NOTICE, NOTICE_ROUTE, the start fault reason and counter memory stay, and the part is HALTED.
R61: a halt that clears a set PRICE_FAULT sets the PRICE flag.
(That R158's "keep" leaves room for this is the model's reading, log 21; the reset values that the manual does not give, log 23.) -/
def Obligations.ControlFollowsItsTable : Prop :=
  (∀ s : Machine.State, s.resetPin = false →
      (s.part = .halted →
        exec .start s = .next { s with
            part := .starting, startFault := .none, controlError := .none, directory := readDirectory s.mem }
          ∧ exec .halt s = .next { s with controlError := .already }
          ∧ exec .rearmLanes s = .next { s with controlError := .notRunning })
      ∧ (s.part = .starting →
        exec .start s = .next { s with controlError := .busy } ∧ exec .halt s = .next { s with controlError := .busy }
          ∧ exec .rearmLanes s = .next { s with controlError := .busy })
      ∧ (s.part = .running → exec .start s = .next { s with controlError := .already })
      ∧ (s.part = .faulted →
        exec .start s = .next { s with controlError := .faulted } ∧ exec .halt s = .next { s with controlError := .faulted }
          ∧ exec .rearmLanes s = .next { s with controlError := .faulted })
      ∧ ∀ code : Word, namedControlCode code = false →
          exec (.controlUnknownCode code) s = .next { s with controlError := .unknownCode })
  ∧ (∀ s : Machine.State, s.resetPin = false → s.part = .running →
      (s.dt.day ≠ .closed → exec .halt s = .next { s with controlError := .dayOpen })
      ∧ (s.dt.day = .closed → s.jw.hold ≠ [] → exec .halt s = .next { s with controlError := .held })
      ∧ (s.dt.day = .closed → s.jw.hold = [] →
        exec .halt s = .next { State.reset with
          pending := s.pending, service := s.service, mem := s.mem, freeIndex := s.freeIndex
          notice := s.notice ||| (if s.pu.fault then 0x40#8 else 0#8)
          route := s.route, startFault := s.startFault }))

/-- R163: REARM_LANES in RUNNING clears the fault of each faulted lane that it finds consistent, leaves the others, and begins a sweep, or
asks for one more, when at least one lane was re-armed. -/
def Obligations.RearmClearsTheConsistentLanes : Prop :=
  ∀ s : Machine.State, s.resetPin = false → s.part = .running →
    ∃ t, exec .rearmLanes s = .next t
      ∧ t = { s with lu := t.lu, controlError := .none }
      ∧ t.lu = { s.lu with urgent := t.lu.urgent, routine := t.lu.routine, sweep := t.lu.sweep,
                           sweepPending := t.lu.sweepPending }
      ∧ (∀ ln, t.lane ln = { s.lane ln with fault := (s.lane ln).fault && !LU.consistent ln s })
      ∧ (if ((s.lane .urgent).fault && LU.consistent .urgent s) || ((s.lane .routine).fault && LU.consistent .routine s) then
          (match s.lu.sweep with
           | none => t.lu.sweep = some { opened := false, routineTaken := 0 } ∧ t.lu.sweepPending = s.lu.sweepPending
           | some w => t.lu.sweep = some w ∧ t.lu.sweepPending = true)
         else t.lu.sweep = s.lu.sweep ∧ t.lu.sweepPending = s.lu.sweepPending)

/-- R155, in the order of its table: the first check that fails makes the part FAULTED with its reason and sets FAULT; no word of counter memory
is written and no link opens, since nothing else changes. -/
def Obligations.StartFaultsAtTheFirstFailingCheck : Prop :=
  ∀ s : Machine.State, s.part = .starting → s.resetPin = false → ∀ d : Directory, d = s.directory →
    let faulted (f : StartFault) : Prop :=
      ∃ t, exec .startingComplete s = .next t
        ∧ OnlyDisplays { s with part := .faulted, startFault := f, notice := s.notice ||| 0x80#8 } t
    let one := d.signature = [0x45, 0x43, 0x34, 0x30]
    let two := d.version = 1
    let three := d.windowLow % 64 = 0 ∧ d.windowHigh % 64 = 0 ∧ d.windowLow < d.windowHigh ∧ d.windowHigh ≤ 262144
    let four := d.urgentCapacity ∈ [4, 8, 16, 32, 64] ∧ d.routineCapacity ∈ [4, 8, 16, 32, 64]
      ∧ d.journalCapacity ∈ [32, 64, 128, 256, 512, 1024]
    let five := (d.urgentBase % 64 = 0 ∧ d.routineBase % 64 = 0 ∧ d.journalBase % 64 = 0 ∧ d.settingsBase % 64 = 0)
      ∧ d.urgentBase + 64 * d.urgentCapacity ≤ 262144 ∧ d.routineBase + 64 * d.routineCapacity ≤ 262144
      ∧ d.journalBase + 64 * d.journalCapacity ≤ 262144 ∧ d.settingsBase + 512 ≤ 262144
    let six := d.regions.Pairwise (fun x y => x.overlaps y = false)
    let seven := ∀ r ∈ [(d.urgentBase, 64 * d.urgentCapacity), (d.routineBase, 64 * d.routineCapacity),
        (d.journalBase, 64 * d.journalCapacity), (28, 8), (52, 8), (72, 4)],
      d.windowLow ≤ r.1 ∧ r.1 + r.2 ≤ d.windowHigh
    (¬one → faulted .signature) ∧ (one → ¬two → faulted .version) ∧ (one → two → ¬three → faulted .window)
      ∧ (one → two → three → ¬four → faulted .capacity) ∧ (one → two → three → four → ¬five → faulted .placement)
      ∧ (one → two → three → four → five → ¬six → faulted .overlap)
      ∧ (one → two → three → four → five → six → ¬seven → faulted .outsideWindow)

/-- R156: when every check passes, STARTING ends in RUNNING: the clamped settings are held, the counts of both lanes start from `returned` and
the journal from `collected`, with sequence 1 and an empty hold, and each stands in its word of counter memory; every station record and
layout that fails, and a total layout number above 7, has its record; the layouts are USABLE or UNUSABLE as their checks go; the start
bank is active with epoch 1 and PRICE_FAULT as its check goes; the sweep timer runs when its period is above 0, and the day, the orders
and the links are as they were. Of counter memory only the count words, the `written` word and the journal differ. -/
def Obligations.StartingEndsInRunning : Prop :=
  ∀ s : Machine.State, s.part = .starting → s.resetPin = false → ∀ d : Directory, d = s.directory →
    d.check = .none →
    let failed := stations.countP (fun st => !(checkSettings (readSettings s.mem (d.settingsBase + 64 * st.val))).isOk)
      + stations.countP (fun n => !(checkLayout s.mem (d.layoutsBase + 512 * n.val)).isOk) + (if d.totalLayout < 8 then 0 else 1)
    ∃ t, exec .startingComplete s = .next t
      ∧ t.part = .running ∧ t.window = some (d.windowLow, d.windowHigh)
      ∧ t.lu = { urgent := { slotBase := d.urgentBase, capacity := d.urgentCapacity, taken := LU.returned .urgent s,
                             answered := LU.returned .urgent s, fault := false }
                 routine := { slotBase := d.routineBase, capacity := d.routineCapacity, taken := LU.returned .routine s,
                              answered := LU.returned .routine s, fault := false }
                 sweepMs := min d.sweepMs 1000, routineBurst := clamp 1 16 d.routineBurst,
                 timerOn := decide (0 < d.sweepMs), sweepPending := false, sweep := none }
      ∧ t.jw = { base := d.journalBase, capacity := d.journalCapacity, highMark := clamp 1 d.journalCapacity d.highMark
                 written := BitVec.ofNat 32 (s.mem.num 76 4) + BitVec.ofNat 32 failed, seq := 1 + BitVec.ofNat 32 failed
                 hold := [], fault := false }
      ∧ t.pu = { s.pu with
          bankA := d.bankA, bankB := d.bankB, epoch := 1
          active := if d.startBank = 0 then some .a else if d.startBank = 1 then some .b else none
          count := if d.startBank ≤ 1 then d.startCount else 0
          crc := if d.startBank ≤ 1 then BitVec.ofNat 32 d.startCrc else 0
          fault := if d.startBank ≤ 1 then
              (PU.validate s.mem (if d.startBank = 0 then d.bankA else d.bankB) d.startCount (BitVec.ofNat 32 d.startCrc)).isSome
            else true }
      ∧ t.lc = { s.lc with
          base := d.layoutsBase
          layouts := Vector.ofFn (fun n => match checkLayout s.mem (d.layoutsBase + 512 * n.val) with
            | .ok layout => .usable layout
            | .error _ => .unusable)
          total := if h : d.totalLayout < 8 then some ⟨d.totalLayout, h⟩ else none }
      ∧ SameBytes (fun x => within 28 8 x ∨ within 52 8 x ∨ within 72 4 x
          ∨ within d.journalBase (64 * d.journalCapacity) x) s t
      ∧ (s.mem.wf = true →
          t.mem.num 28 4 = (LU.returned .urgent s).toNat ∧ t.mem.num 32 4 = (LU.returned .urgent s).toNat
          ∧ t.mem.num 52 4 = (LU.returned .routine s).toNat ∧ t.mem.num 56 4 = (LU.returned .routine s).toNat
          ∧ t.mem.num 72 4 = t.jw.written.toNat)
      ∧ t.tu = { s.tu with settings :=
          { callTimeout := clamp 5 120 d.callTimeout, recallLimit := clamp 0 3 d.recallLimit,
            skipLimit := clamp 1 3 d.skipLimit, chimeTone := clamp 0 7 d.chimeTone,
            chimeLevel := clamp 1 8 d.chimeLevel, envelope := decide (1 ≤ d.envelope) } }
      ∧ (∀ p : PrinterNo, t.printer p = { s.printer p with timeout := clamp 2 30 d.printTimeout })
      ∧ t.dt = s.dt ∧ t.ot = s.ot ∧ (∀ l, (t.link l).state = (s.link l).state)
      ∧ ∀ st : Station, (match checkSettings (readSettings s.mem (d.settingsBase + 64 * st.val)) with
          | .ok c => (t.channel st).load = .loaded ∧ (t.channel st).enabled = c.enabled ∧ (t.channel st).settings = some c
              ∧ (t.channel st).heldCal = some c.cal
          | .error _ => (t.channel st).load = .failed ∧ (t.channel st).enabled = false ∧ (t.channel st).settings = none
              ∧ (t.channel st).heldCal = none ∧ t.flag .station = true)

/-- R164 and R160: a WAKE, whatever value it carries, and an expiry of a running sweep timer begin a sweep, or set sweep-pending while one is in
progress. A write to WAKE in another part state is ignored, and so is a write to STATUS. A sweep timer that does not run does not expire
(log 6), and an offset with no register ignores the write (log 36). -/
def Obligations.WakesBeginASweep : Prop :=
  ∀ (s : Machine.State) (v o : Word),
    (s.running = true → s.lu.sweep = none →
      exec (.wake v) s = .next { s with lu := { s.lu with sweep := some { opened := false, routineTaken := 0 } } }
        ∧ (s.lu.timerOn = true → exec .sweepTimerExpiry s
            = .next { s with lu := { s.lu with sweep := some { opened := false, routineTaken := 0 } } }))
    ∧ (∀ w, s.running = true → s.lu.sweep = some w →
      exec (.wake v) s = .next { s with lu := { s.lu with sweepPending := true } }
        ∧ (s.lu.timerOn = true → exec .sweepTimerExpiry s = .next { s with lu := { s.lu with sweepPending := true } }))
    ∧ (s.running = false → exec (.wake v) s = .next s ∧ exec .sweepTimerExpiry s = .next s)
    ∧ (s.lu.timerOn = false → exec .sweepTimerExpiry s = .next s)
    ∧ (namedWriteOffset o = false → exec (.registerWrite o v) s = .next s)

/-- R172 and R173: a write to NOTICE clears each flag whose bit is 1 and leaves the others; a write to NOTICE_ROUTE replaces every route; each line
is active while some set flag has a route with its bit. Bits 8 to 31, and 16 to 31, are ignored. -/
def Obligations.NoticeWritesSteerTheLines : Prop :=
  ∀ (s : Machine.State) (v : Word), s.resetPin = false →
    (∃ t, exec (.noticeWrite v) s = .next t ∧ t = { s with notice := t.notice }
      ∧ ∀ f : Flag, t.flag f = (s.flag f && !v.getLsbD f.bit))
    ∧ (∃ t, exec (.noticeRouteWrite v) s = .next t ∧ t = { s with route := t.route }
      ∧ (∀ n < 16, t.route.getLsbD n = v.getLsbD n)
      ∧ (t.noteLine = true ↔ ∃ f : Flag, s.flag f = true ∧ v.getLsbD (2 * f.bit) = true)
      ∧ (t.alertLine = true ↔ ∃ f : Flag, s.flag f = true ∧ v.getLsbD (2 * f.bit + 1) = true))

/-! ### Sweeps and requests -/

/-- The command of a request kind, 1 to 19 (R168); UNKNOWN_KIND for any other. -/
def kindCommand (k : Nat) : Instr :=
  match k with
  | 1 => .openDay
  | 2 => .closeDay
  | 3 => .cancelClose
  | 4 => .setClock
  | 5 => .readTotals
  | 6 => .switchPrices
  | 7 => .checkPrices
  | 8 => .reloadStation
  | 9 => .stationMode
  | 10 => .readStation
  | 11 => .reprint
  | 12 => .printerClear
  | 13 => .issueTicket
  | 14 => .lineEdit
  | 15 => .openOrder
  | 16 => .voidOrder
  | 17 => .clerkOff
  | 18 => .readOrder
  | 19 => .readEquipment
  | _ => .unknownKind

/-- Requests are taken one after another, each by the command of its kind, from the lanes named (R165, R166). -/
def takenInTurn : List Lane → Machine.State → Machine.State → Prop
  | [], s, t => t = s
  | ln :: rest, s, t =>
    LU.takes ln (fun _ => true) s = true ∧ ∃ u, exec (kindCommand (LU.kindAt ln s)) s = .next u ∧ takenInTurn rest u t

/-- The state that a sweep's end leaves: a new sweep begins when sweep-pending is set, or when step 5 has set it (R164, R165). -/
def sweepEnded (again : Bool) (s : Machine.State) : Machine.State :=
  { s with lu := { s.lu with
      sweep := if again then some { opened := false, routineTaken := 0 } else none, sweepPending := false } }

/-- R165: the steps of a SWEEP. Step 1 writes held records, oldest first, as many as are free (R171). Step 2 resumes a paused close with the void that
a FORCED_VOID would make (R144). Steps 3 and 4 take requests, each as the command of its kind takes it: ROUTINE ones only while no URGENT
one waits and the burst is not taken, none of either lane after it. A sweep with nothing left to take ends, and a set sweep-pending flag
begins a new one (R164); with the burst taken and a ROUTINE request left, step 5 begins one as well. Without a sweep in progress, or
outside RUNNING, the command changes nothing (log 7).
(That step 2 makes one void, each further one being a FORCED_VOID, is the model's choice, log 20; that step 1 with an empty hold checks no
journal counts, log 14.) -/
def Obligations.SweepMakesItsSteps : Prop :=
  ∀ s : Machine.State,
    (∀ w, s.running = true → s.lu.sweep = some w → s.jw.hold = [] →
      (∀ j, s.dt.close = some j → j.forcing ≠ .paused) → LU.hasNone .urgent s = true → LU.hasNone .routine s = true →
      ∃ t, exec .sweep s = .next t ∧ OnlyDisplays (sweepEnded s.lu.sweepPending s) t)
    ∧ (s.running = false ∨ s.lu.sweep = none → exec .sweep s = .next s)
    ∧ (∀ w, s.running = true → s.lu.sweep = some w → w.opened = false →
      (∀ j, s.dt.close = some j → j.forcing ≠ .paused) → JW.hasRoom 0 { s with jw := { s.jw with hold := [] } } = true →
      ∃ u, exec .sweep s = exec .sweep { u with lu := { u.lu with sweep := some { w with opened := true } } }
        ∧ ∃ v, JW.Wrote (s.jw.hold.take (JW.free s)) { s with jw := { s.jw with hold := s.jw.hold.drop (JW.free s) } } v
          ∧ OnlyDisplays v u)
    ∧ (∀ w j u, s.running = true → s.lu.sweep = some w → w.opened = false → s.jw.hold = [] → s.dt.day = .forced →
      s.dt.close = some j → j.forcing = .paused → (∃ i, (s.order i).isSome = true) →
      exec .forcedVoid { s with dt := { s.dt with close := some { j with forcing := .active } } } = .next u →
      exec .sweep s = exec .sweep { u with lu := { u.lu with sweep := some { w with opened := true } } })
    ∧ (∀ lanes u w, s.running = true → takenInTurn lanes s u → lanes.length ≤ s.lu.urgent.capacity + s.lu.routineBurst →
      u.lu.sweep = some w → w.opened = true →
      (LU.hasNone .urgent u = true → LU.hasNone .routine u = true →
        ∃ t, exec .sweep s = .next t ∧ OnlyDisplays (sweepEnded u.lu.sweepPending u) t)
      ∧ (w.routineTaken = u.lu.routineBurst → LU.hasRequest .routine u = true →
        ∃ t, exec .sweep s = .next t ∧ OnlyDisplays (sweepEnded true u) t))

/-- R166: whatever its kind, the request that the sweep takes next is taken and answered in one event: taken and answered each become one higher,
the other lane stands, ANSWERED is set, and the answer half of the slot that taken named holds the owner's answer.
(Which request a row takes is the model's choice, log 7.) -/
def Obligations.RequestsAreTakenAndAnswered : Prop :=
  ∀ (ln : Lane) (s : Machine.State), LU.takes ln (fun _ => true) s = true → LU.placed ln s = true →
    ∃ t, exec (kindCommand (LU.kindAt ln s)) s = .next t
      ∧ t.lu = (LU.countRoutine ln (s.modLane ln
          (fun k => { k with taken := k.taken + 1, answered := k.answered + 1 }))).lu
      ∧ t.flag .answered = true
      ∧ t.mem.num (ln.words + 16) 4 = ((s.lane ln).answered + 1).toNat
      ∧ t.mem.bytes (LU.slot (s.lane ln) + 32) 32 = (serve (LU.request ln s) (LU.advanceTaken ln s)).2.bytes

/-- The parameter that fails first for a request (R168), with the sizes its owner's rule gives; 0 when none fails. -/
def firstBadParam (ln : Lane) (s : Machine.State) : Nat :=
  let p := fun i => LU.param ln i s
  match LU.kindAt ln s with
  | 1 | 4 => if (dateOfWord (p 1)).valid = false then 1 else if 86399 < p 2 then 2 else 0
  | 2 => if 240 < p 1 then 1 else if MP.areaGood s (p 2) = false then 2 else 0
  | 5 => if MP.areaGood s (p 1) = false then 1 else 0
  | 6 => if 1 < p 1 then 1 else 0
  | 8 | 10 => if 7 < p 1 then 1 else 0
  | 9 => if 7 < p 1 then 1 else if 3 < p 2 then 2 else 0
  | 11 => if p 1 = 0 ∨ 999999 < p 1 then 1 else if 1 < p 2 then 2 else 0
  | 12 => if 1 < p 1 then 1 else 0
  | 14 => if 1 < p 1 then 1 else if p 2 = 0 ∨ 99 < p 2 then 2 else 0
  | 16 | 18 => if p 1 = 0 ∨ 9999 < p 1 then 1 else 0
  | 17 => if p 1 = 0 ∨ 32 < p 1 then 1 else 0
  | 19 => if 11 < p 1 then 1 else 0
  | _ => 0

/-- A request of lane `ln` whose kind is among `kinds` and a parameter of which fails is answered BAD_PARAM with the index of the first that
fails, and nothing else changes (R166, R168). -/
def badParamsAnswered (ln : Lane) (kinds : List Nat) (s : Machine.State) : Prop :=
  ∀ k ∈ kinds, LU.takes ln (fun x => x == k) s = true → firstBadParam ln s ≠ 0 →
    ∃ t, exec (kindCommand k) s = .next t ∧ LU.Served ln (.badParam (firstBadParam ln s)) noBytes s s t

/-- The places in the journal hold that a request kind holds (R167). -/
def placesOf (k : Nat) : Nat := if k = 1 then 1 else if k = 2 then 2 else if k = 6 then 2 else if k = 7 then 1 else 0

/-- A kind outside 1 to 19 is answered UNKNOWN_KIND, a parameter that fails BAD_PARAM with its index, and a request that R167 turns away BUSY; of
the state only the lane's counts and words, the answer half and the ANSWERED flag change (R166, R167, R168). -/
def Obligations.RefusedAtTheLaneChangesNothingElse : Prop :=
  ∀ (ln : Lane) (s : Machine.State), LU.takes ln (fun _ => true) s = true → LU.placed ln s = true →
    (LU.kindAt ln s = 0 ∨ 19 < LU.kindAt ln s →
      ∃ t, exec .unknownKind s = .next t ∧ LU.Served ln (.of .unknownKind) noBytes s s t)
    ∧ (firstBadParam ln s ≠ 0 →
      ∃ t, exec (kindCommand (LU.kindAt ln s)) s = .next t
        ∧ LU.Served ln (.badParam (firstBadParam ln s)) noBytes s s t)
    ∧ (firstBadParam ln s = 0 → 0 < placesOf (LU.kindAt ln s) →
      4 < s.jw.hold.length + JW.placesInFlight s + placesOf (LU.kindAt ln s) →
      ∃ t, exec (kindCommand (LU.kindAt ln s)) s = .next t ∧ LU.Served ln (.of .busy) noBytes s s t)

/-! ### The business day -/

/-- R140: OPEN_DAY on a CLOSED day whose active bank passes its check: the clock, the business date and opened at are the date and time given; the next
order number, label serial and ticket are 1; the recent labels and the serving list are empty, an empty LIST going to L11; PRICE_FAULT is
clear; the day is OPEN and a DAY_OPEN record is written. On a day that is not CLOSED the answer is WRONG_STATE; on a bank that fails,
PRICE_FAULT with the reason, the index and the field. -/
def Obligations.OpenDayOpensTheDay : Prop :=
  ∀ (ln : Lane) (s : Machine.State), LU.takes ln (fun k => k == 1) s = true → LU.placed ln s = true →
    firstBadParam ln s = 0 → JW.reservationMet 1 s = true → (∀ k, s.pu.active = some k → 256 ≤ PU.base s.pu k) →
    (s.dt.day ≠ .closed → ∃ t, exec .openDay s = .next t ∧ LU.Served ln (.of .wrongState) noBytes s s t)
    ∧ (∀ f, s.dt.day = .closed → (PU.checkActive s).2 = some f →
      ∃ t, exec .openDay s = .next t
        ∧ LU.Served ln { outcome := .priceFault, bad := 0, results := [f.reason.code, f.index, f.field] } noBytes s
            (PU.setFault s) t)
    ∧ (s.dt.day = .closed → (PU.checkActive s).2 = none → JW.hasRoom 1 s = true → JW.apart ln s = true →
      let clock : Stamp := { date := dateOfWord (LU.param ln 1 s), time := LU.param ln 2 s }
      let u := JW.counted (LK.hand displayLink (.list []) { s with
        pu := { s.pu with fault := false }
        dt := { s.dt with clock := clock, businessDate := clock.date, openedAt := clock, day := .opened }
        ot := { s.ot with next := 1 }, lc := { s.lc with nextSerial := 1, recent := [] }
        tu := { s.tu with next := 1, serving := [] }
        notice := s.notice ||| (if s.pu.fault then 0x60#8 else 0x20#8) })
      ∃ t, exec .openDay s = .next t ∧ LU.Served ln (.done []) (JW.bytes s) s u t
        ∧ JW.Holds (.dayOpen clock s.pu.active s.pu.epoch s.pu.count) clock s t)

/-- The state that the completion of a close leaves, with room for its two records (R145): the day CLOSED without a close job, every accumulator 0, every
station without a pending action, out of RUN mode, with DAY CLOSED; the two records counted, DAY set. -/
def closedDay (s : Machine.State) : Machine.State :=
  JW.counted (JW.counted { s with
    dt := { s.dt with day := .closed, close := none, acc := Accumulators.zero }
    sd := Vector.ofFn (fun st => { s.sd[st] with
      pendingAction := .none, pendingBudget := 0, pendingDest := none, mode := .normal, transient := some .dayClosed })
    notice := s.notice ||| 0x20#8 })

/-- The bytes that a completion in state `s` writes: the totals area and the two records. -/
def closeBytes (j : CloseJob) (s : Machine.State) (x : Nat) : Prop :=
  within j.area 1024 x ∨ JW.bytes s x ∨ JW.bytes (JW.counted s) x

/-- What a completion in state `s` wrote stands in `t`: the totals record of kind CLOSE, the DAY_CLOSE record and the OP_DONE record of the close's
request with outcome DONE (R145, R146). -/
def closeWritten (j : CloseJob) (s t : Machine.State) : Prop :=
  t.mem.bytes j.area 1024 = DT.totalsRecord false s
    ∧ JW.Holds (.dayClose s.dt.openedAt s.dt.clock (s.dt.day == .forced) s.pu.epoch j.area s.dt.acc.grand) s.dt.clock s t
    ∧ JW.Holds (.opDone j.request 2 .done none) s.dt.clock (JW.counted s) t

/-- With slot `i` freed no close completes: none is in flight, a ticket waits in the line, or another slot holds an order (R142). -/
def goesOn (i : SlotNo) (s : Machine.State) : Prop :=
  s.dt.close = none ∨ s.tu.line ≠ [] ∨ ∃ k, k ≠ i ∧ (s.order k).isSome = true

/-- Slot `i` freed completes the close `j`: the day is CLOSING, the line is empty and no other slot holds an order (R142); the totals area is one
that CLOSE_DAY admits (R161). -/
def endsTheClose (i : SlotNo) (j : CloseJob) (s : Machine.State) : Prop :=
  (s.dt.day = .waiting ∨ s.dt.day = .forced) ∧ s.dt.close = some j ∧ s.tu.line = [] ∧ (∀ k, k ≠ i → s.order k = none)
    ∧ MP.areaGood s j.area = true

/-- The state in which the order `o` of slot `i` has been voided, before its clerk's station is told (R133): the record counted, the accumulators of
R150, the ticket free, no call record, the slot free, the clerk without an order. -/
def voided (i : SlotNo) (o : Machine.Order) (s : Machine.State) : Machine.State :=
  let s1 := JW.counted s
  let g := s1.dt.acc.grand
  let s2 := { s1 with
    dt := { s1.dt with acc := { s1.dt.acc with grand := { g with
      ordersVoided := min (g.ordersVoided + 1) 4294967295
      itemsVoided := min (g.itemsVoided + o.items.length) 4294967295 } } }
    tu := TU.mark o.ticket false { s1.tu with calls := s1.tu.calls.set i.val none i.isLt } }
  (match o.clerk with
   | none => s2
   | some c => s2.setClerk c { s2.clerk c with slot := none }).setOrder i none

/-- The state in which a station has been told that its clerk's order of slot `i` was voided (R43, R133): a pending print whose destination it was is
cancelled with NO ORDER, and NO ORDER shows with no pending print. -/
def toldVoid (i : SlotNo) (st : Option Station) (s : Machine.State) : Machine.State :=
  match st with
  | none => s
  | some x => s.modDialogue x (fun d =>
      if d.pendingAction = .print then
        if d.pendingDest = some (.slot i) then
          { d with pendingAction := .none, pendingBudget := 0, pendingDest := none, transient := some .noOrder }
        else d
      else { d with transient := some .noOrder })

/-- R141 and R143: CLOSE_DAY on an OPEN day with a deadline above 0 and orders or tickets left starts the close: the job records the request, the area and
the deadline, the day is CLOSING WAITING and DAY is set. With deadline 0 the forced stage begins at once: the line is empty afterwards;
with an empty line the order in the lowest slot in use is voided with cause CLOSE (log 20), which completes the close when it was the
last, or the forcing pauses with fewer than 5 free records. On a CLOSED day the answer is WRONG_STATE, in either stage of a close BUSY.
(That the close completes after the clerk's station has been told of the void is the model's choice, log 18. An empty counter is
CloseOfAnEmptyCounterCompletes's.) -/
def Obligations.CloseDayStartsTheClose : Prop :=
  ∀ (ln : Lane) (s : Machine.State), LU.takes ln (fun k => k == 2) s = true → LU.placed ln s = true →
    firstBadParam ln s = 0 → JW.reservationMet 2 s = true →
    let close (deadline : Option Nat) (forcing : Forcing) : CloseJob :=
      { request := { lane := ln, number := (s.lane ln).taken }, area := LU.param ln 2 s, deadline := deadline, forcing := forcing }
    let started (day : DayState) (j : CloseJob) : Machine.State :=
      { s with dt := { s.dt with day := day, close := some j }, notice := s.notice ||| 0x20#8 }
    (s.dt.day = .closed → ∃ t, exec .closeDay s = .next t ∧ LU.Served ln (.of .wrongState) noBytes s s t)
    ∧ (s.dt.day = .waiting ∨ s.dt.day = .forced →
      ∃ t, exec .closeDay s = .next t ∧ LU.Served ln (.of .busy) noBytes s s t)
    ∧ (s.dt.day = .opened → 0 < LU.param ln 1 s → DT.counterEmpty s = false →
      ∃ t, exec .closeDay s = .next t
        ∧ LU.Served ln (.of .started) noBytes s (started .waiting (close (some (60 * LU.param ln 1 s)) .idle)) t)
    ∧ (s.dt.day = .opened → LU.param ln 1 s = 0 →
      (∃ t, exec .closeDay s = .next t ∧ t.tu.line = [] ∧ (t.dt.day = .forced ∨ t.dt.day = .closed)
        ∧ t.flag .day = true ∧ t.flag .answered = true)
      ∧ (s.tu.line = [] → DT.counterEmpty s = false → JW.lacksRoom 5 s = true →
        ∃ t, exec .closeDay s = .next t ∧ LU.Served ln (.of .started) noBytes s (started .forced (close none .paused)) t)
      ∧ ∀ i o, s.tu.line = [] → s.order i = some o → (∀ k, k < i → s.order k = none) → JW.hasRoom 5 s = true →
        JW.apart ln s = true →
        let v := toldVoid i (o.clerk.bind (fun c => (s.clerk c).station)) (voided i o (started .forced (close none .active)))
        let held (t : Machine.State) : Prop :=
          JW.Holds (.orderVoid o.number o.ticket o.source o.clerk o.state o.items.length .close o.total) s.dt.clock s t
        ((∃ k, k ≠ i ∧ (s.order k).isSome = true) →
          ∃ t, exec .closeDay s = .next t ∧ LU.Served ln (.of .started) (JW.bytes s) s v t ∧ held t)
        ∧ ((∀ k, k ≠ i → s.order k = none) →
          ∃ t, exec .closeDay s = .next t
            ∧ LU.Served ln (.of .started) (fun x => JW.bytes s x ∨ closeBytes (close none .active) v x) s (closedDay v) t
            ∧ held t ∧ closeWritten (close none .active) v t))

/-- R145: a close that finds the counter empty completes: CLOSE_DAY on an OPEN day with no order and no ticket, in the waiting stage with a deadline above
0 and in the forced stage with 0 (log 19). The totals record is written to the area, DAY_CLOSE and OP_DONE records follow, every accumulator
is 0, every station has no pending action, is out of RUN mode and shows DAY CLOSED, and the day is CLOSED without a close job. Without
room the two records are held. -/
def Obligations.CloseOfAnEmptyCounterCompletes : Prop :=
  ∀ (ln : Lane) (s : Machine.State), LU.takes ln (fun k => k == 2) s = true → LU.placed ln s = true →
    firstBadParam ln s = 0 → JW.reservationMet 2 s = true → s.dt.day = .opened → DT.counterEmpty s = true →
    let stage : DayState := if LU.param ln 1 s = 0 then .forced else .waiting
    let totals := DT.totalsRecord false { s with dt := { s.dt with day := stage } }
    let dayClose : RecordBody :=
      .dayClose s.dt.openedAt s.dt.clock (stage == .forced) s.pu.epoch (LU.param ln 2 s) s.dt.acc.grand
    let opDone : RecordBody := .opDone { lane := ln, number := (s.lane ln).taken } 2 .done none
    ∃ t, exec .closeDay s = .next t
      ∧ t.dt = { s.dt with day := .closed, close := none, acc := Accumulators.zero }
      ∧ t.flag .day = true ∧ t.flag .answered = true
      ∧ (∀ st : Station, (t.dialogue st).pendingAction = .none ∧ (t.dialogue st).mode = .normal
          ∧ (t.dialogue st).transient = some .dayClosed ∧ (t.dialogue st).selection = (s.dialogue st).selection)
      ∧ t.ot = s.ot ∧ t.tu = s.tu ∧ t.pq = s.pq ∧ t.lc = s.lc ∧ t.we = s.we ∧ t.pu = s.pu
      ∧ (JW.hasRoom 2 s = true → t.jw.written = s.jw.written + 2 ∧ t.jw.hold = []
          ∧ (JW.apart ln s = true → t.mem.bytes (LU.param ln 2 s) 1024 = totals
              ∧ JW.Holds dayClose s.dt.clock s t ∧ JW.Holds opDone s.dt.clock (JW.counted s) t))
      ∧ (JW.lacksRoom 1 s = true → t.jw.hold = [dayClose, opDone] ∧ t.mem.bytes (LU.param ln 2 s) 1024 = totals)

/-- R147: CANCEL_CLOSE in either stage of a close returns the day to OPEN without a close job, sets DAY and writes an OP_DONE record with the close's
request, kind 2 and outcome CANCELLED. On a CLOSED day the answer is TOO_LATE, on an OPEN day WRONG_STATE. -/
def Obligations.CancelCloseReturnsTheDayToOpen : Prop :=
  ∀ (ln : Lane) (s : Machine.State), LU.takes ln (fun k => k == 3) s = true → LU.placed ln s = true →
    (s.dt.day = .closed → ∃ t, exec .cancelClose s = .next t ∧ LU.Served ln (.of .tooLate) noBytes s s t)
    ∧ (s.dt.day = .opened → ∃ t, exec .cancelClose s = .next t ∧ LU.Served ln (.of .wrongState) noBytes s s t)
    ∧ (∀ j, s.dt.day = .waiting ∨ s.dt.day = .forced → s.dt.close = some j → JW.hasRoom 1 s = true →
      JW.apart ln s = true →
      ∃ t, exec .cancelClose s = .next t
        ∧ LU.Served ln (.done []) (JW.bytes s) s
            (JW.counted { s with dt := { s.dt with day := .opened, close := none }, notice := s.notice ||| 0x20#8 }) t
        ∧ JW.Holds (.opDone j.request 2 .cancelled none) s.dt.clock s t)

/-- R139: SET_CLOCK with a date of the calendar and a time to 86,399 s gives the clock that date and time, in every day state, and changes no other item.
R153: READ_TOTALS writes the totals record, kind READ, to the area it names and answers DONE with the grand amount, in every day state. Nothing else
changes: of counter memory only the area and what LU writes. A bad date, time or area is answered BAD_PARAM with its index. -/
def Obligations.ClockAndTotalsRequests : Prop :=
  (∀ (ln : Lane) (s : Machine.State), LU.takes ln (fun k => k == 4) s = true → LU.placed ln s = true →
      firstBadParam ln s = 0 →
      ∃ t, exec .setClock s = .next t
        ∧ LU.Served ln (.done []) noBytes s
            { s with dt := { s.dt with clock := { date := dateOfWord (LU.param ln 1 s), time := LU.param ln 2 s } } } t)
  ∧ (∀ (ln : Lane) (s : Machine.State), LU.takes ln (fun k => k == 5) s = true → LU.placed ln s = true →
      firstBadParam ln s = 0 →
      ∃ t, exec .readTotals s = .next t
        ∧ LU.Served ln (.done [s.dt.acc.grand.amount % 4294967296, s.dt.acc.grand.amount / 4294967296])
            (within (LU.param ln 1 s) 1024) s s t
        ∧ t.mem.bytes (LU.param ln 1 s) 1024 = DT.totalsRecord true s)
  ∧ (∀ (ln : Lane) (s : Machine.State), LU.placed ln s = true → badParamsAnswered ln [4, 5] s)

/-! ### Price requests -/

/-- R53 and R54: with the reservation met and no job running, SWITCH_PRICES starts a SWITCH job on the bank, count and CRC it gives, and CHECK_PRICES a
CHECK job on the active bank and the recorded values, each under the request's identification; CHECK_PRICES without an active bank
answers WRONG_STATE. A running job makes both BUSY. A bank that is neither 0 nor 1 is answered BAD_PARAM. -/
def Obligations.PriceRequestsStartAJob : Prop :=
  ∀ (ln : Lane) (s : Machine.State), LU.placed ln s = true →
    badParamsAnswered ln [6] s
    ∧ (LU.takes ln (fun k => k == 6) s = true → LU.param ln 1 s ≤ 1 → JW.reservationMet 2 s = true →
      (s.pu.job.isSome = true → ∃ t, exec .switchPrices s = .next t ∧ LU.Served ln (.of .busy) noBytes s s t)
      ∧ (s.pu.job = none →
        ∃ t, exec .switchPrices s = .next t
          ∧ LU.Served ln (.of .started) noBytes s { s with pu := { s.pu with
              job := some { type := .switch, bank := if LU.param ln 1 s = 0 then .a else .b, count := LU.param ln 2 s,
                            crc := BitVec.ofNat 32 (LU.param ln 3 s) }
              jobRequest := some { lane := ln, number := (s.lane ln).taken } } } t))
    ∧ (LU.takes ln (fun k => k == 7) s = true → JW.reservationMet 1 s = true →
      (s.pu.job.isSome = true → ∃ t, exec .checkPrices s = .next t ∧ LU.Served ln (.of .busy) noBytes s s t)
      ∧ (s.pu.job = none → s.pu.active = none →
        ∃ t, exec .checkPrices s = .next t ∧ LU.Served ln (.of .wrongState) noBytes s s t)
      ∧ (∀ k, s.pu.job = none → s.pu.active = some k →
        ∃ t, exec .checkPrices s = .next t
          ∧ LU.Served ln (.of .started) noBytes s { s with pu := { s.pu with
              job := some { type := .check, bank := k, count := s.pu.count, crc := s.pu.crc }
              jobRequest := some { lane := ln, number := (s.lane ln).taken } } } t))

/-! ### Station requests -/

/-- The state with station `st` having no clerk: the clerk there is AWAY with an order and OFF without one (R124). -/
def withoutClerk (st : Station) (s : Machine.State) : Machine.State :=
  match OT.clerkAt s st with
  | some c => s.setClerk c { s.clerk c with station := none }
  | none => s

/-- What a station becoming DISABLED does (R8, R43, R124): the channel in NONE without shown weight, range and indicators, a PRESET tare
cleared; the buffer empty, no pending action, out of RUN, no PLU, the repeat flag clear; no clerk at the station. -/
def asDisabled (st : Station) (ch : Channel) (s : Machine.State) : Machine.State :=
  withoutClerk st ((s.setChannel st { ch with
      state := .none, shown := none, range := none, zeroLit := false, netLit := false, enabled := false
      tareKind := if ch.tareKind = .preset then .none else ch.tareKind
      tare := if ch.tareKind = .preset then 0 else ch.tare }).modDialogue st (fun d => { d with
    buffer := [], pendingAction := .none, pendingBudget := 0, pendingDest := none, mode := .normal, selection := none
    repeatOn := false, zeroFailure := false }))

/-- The channel clear of R7. -/
def cleared (c : Settings) (ch : Channel) : Channel :=
  { ch with
    ring := [], average := 0, stable := c.stableCount, zeroTried := false, zeroOffset := 0, initialOffset := 0
    tareKind := .none, tare := 0, shown := none, range := none, zeroLit := false, netLit := false, state := .zeroing }

/-- R4 and R5: RELOAD_STATION. A record with a changed calibration while SERVICE is inactive answers CAL_LOCKED and changes nothing; any other valid
record is loaded: the channel is cleared to ZEROING when ENABLED with its link UP and is in NONE otherwise, no action is pending, RUN is
left; a station that was ENABLED and becomes DISABLED loses its PLU and its clerk. An invalid record makes the station FAILED and
DISABLED, keeps the settings copy and the held calibration, and sets STATION.
(That the zero failure stands on a reload into ZEROING is the model's choice, log 32; which failing field is reported, logs 34 and 39.) -/
def Obligations.ReloadFollowsTheRecord : Prop :=
  ∀ (ln : Lane) (s : Machine.State) (st : Station), LU.takes ln (fun k => k == 8) s = true → LU.placed ln s = true →
    LU.param ln 1 s = st.val → 256 ≤ s.settingsBase → s.settingsBase + 512 ≤ Config.memorySize →
    let ch := s.channel st
    (∀ c k, SD.record st s = .ok c → ch.heldCal = some k → k ≠ c.cal → s.service = false →
      ∃ t, exec .reloadStation s = .next t ∧ LU.Served ln (.of .calLocked) noBytes s s t)
    ∧ (∀ c, SD.record st s = .ok c → (ch.heldCal = none ∨ ch.heldCal = some c.cal ∨ s.service = true) →
      let loaded : Channel := { ch with load := .loaded, enabled := c.enabled, settings := some c, heldCal := some c.cal }
      (c.enabled = true →
        ∃ t, exec .reloadStation s = .next t
          ∧ LU.Served ln (.done [0, 0]) noBytes s
              ((s.setChannel st (if s.linkUp (stationLink st) then cleared c loaded
                  else { loaded with state := .none, shown := none, range := none, zeroLit := false, netLit := false })).modDialogue
                st (fun d => { d with
                  pendingAction := .none, pendingBudget := 0, pendingDest := none, mode := .normal
                  zeroFailure := if s.linkUp (stationLink st) then d.zeroFailure else false })) t)
      ∧ (c.enabled = false → ch.enabled = true →
        ∃ t, exec .reloadStation s = .next t ∧ LU.Served ln (.done [1, 0]) noBytes s (asDisabled st loaded s) t)
      ∧ (c.enabled = false → ch.enabled = false →
        ∃ t, exec .reloadStation s = .next t
          ∧ LU.Served ln (.done [1, 0]) noBytes s
              ((s.setChannel st { loaded with
                  state := .none, shown := none, range := none, zeroLit := false, netLit := false }).modDialogue st
                (fun d => { d with
                  pendingAction := .none, pendingBudget := 0, pendingDest := none, mode := .normal, zeroFailure := false })) t))
    ∧ (∀ r n, SD.record st s = .error (r, n) →
      ∃ t, exec .reloadStation s = .next t
        ∧ (t.channel st).load = .failed ∧ (t.channel st).enabled = false ∧ (t.channel st).state = .none
        ∧ (t.channel st).settings = ch.settings ∧ (t.channel st).heldCal = ch.heldCal
        ∧ t.flag .station = true ∧ t.flag .answered = true
        ∧ (∀ st', st' ≠ st → t.channel st' = s.channel st')
        ∧ t.mem.bytes (LU.slot (s.lane ln) + 32) 32
            = (if r = .settingsCrc then Answer.done [2, 0] else Answer.done [3, n]).bytes)

/-- R47: STATION_MODE, every action in every condition of its table, in any day state; a station outside 0 to 7 or an unknown action is answered
BAD_PARAM.
(What ENABLE and DISABLE leave of the zero failure is the model's choice, log 32.) -/
def Obligations.StationModeFollowsItsTable : Prop :=
  (∀ (ln : Lane) (s : Machine.State), LU.placed ln s = true → badParamsAnswered ln [9] s)
  ∧ ∀ (ln : Lane) (s : Machine.State) (st : Station), LU.takes ln (fun k => k == 9) s = true → LU.placed ln s = true →
    LU.param ln 1 s = st.val →
    let ch := s.channel st
    let gives (a : Answer) (u : Machine.State) : Prop :=
      ∃ t, exec .stationMode s = .next t ∧ LU.Served ln a noBytes s u t
    (LU.param ln 2 s = 0 →
      (ch.load ≠ .loaded → gives (.of .wrongState) s) ∧ (ch.load = .loaded → ch.enabled = true → gives (.done []) s)
        ∧ (∀ c, ch.load = .loaded → ch.enabled = false → ch.settings = some c →
          gives (.done []) ((s.setChannel st (if s.linkUp (stationLink st) then cleared c { ch with enabled := true }
              else { ch with enabled := true, state := .none, shown := none, range := none, zeroLit := false,
                             netLit := false })).modDialogue st
            (fun d => { d with zeroFailure := if s.linkUp (stationLink st) then d.zeroFailure else false }))))
    ∧ (LU.param ln 2 s = 1 →
      (ch.enabled = false → gives (.done []) s) ∧ (ch.enabled = true → gives (.done []) (asDisabled st ch s)))
    ∧ (LU.param ln 2 s = 2 → gives (.done []) (s.modDialogue st (fun d => { d with mode := .normal })))
    ∧ (LU.param ln 2 s = 3 →
      gives (.done []) (s.modDialogue st (fun d => { d with transient := none, noShow := false })))

/-- R48, R136 and R184: READ_STATION, READ_ORDER and READ_EQUIPMENT answer the state as it stands and change no other state; READ_ORDER of a number
that no order holds answers NOT_FOUND. A number out of its range is answered BAD_PARAM.
(The tare of READ_STATION is the channel's in every weight state, the model's choice, log 26; so is the clerk's state 0 that READ_ORDER answers for
an order without a clerk, log 40.) -/
def Obligations.ReadsAnswerAndChangeNothing : Prop :=
  ∀ (ln : Lane) (s : Machine.State), LU.placed ln s = true →
    badParamsAnswered ln [10, 18, 19] s
    ∧ (∀ st : Station, LU.takes ln (fun k => k == 10) s = true → LU.param ln 1 s = st.val →
      let ch := s.channel st
      let d := s.dialogue st
      ∃ t, exec .readStation s = .next t
        ∧ LU.Served ln (.done
            [packed (s.link (stationLink st)).state.code ch.enabled.toNat ch.load.code ch.state.code,
             signedWord (ch.shown.getD 0 / 1000), ch.tareKind.code + 256 * (ch.tare / 1000).toNat,
             (d.selection.map PluRecord.plu).getD 0,
             packed (clerkNumber (OT.clerkAt s st)) (((OT.orderAt s st).map (fun x => x.2.ticket)).getD 0)
               d.repeatOn.toNat d.mode.code,
             packed d.pendingAction.code (messageCode d.messageLine) 0 0]) noBytes s s t)
    ∧ (LU.takes ln (fun k => k == 18) s = true → firstBadParam ln s = 0 →
      (OT.withNumber s (LU.param ln 1 s) = none →
        ∃ t, exec .readOrder s = .next t ∧ LU.Served ln (.of .notFound) noBytes s s t)
      ∧ ∀ i o, OT.withNumber s (LU.param ln 1 s) = some (i, o) →
        ∃ t, exec .readOrder s = .next t
          ∧ LU.Served ln (.done
              [packed i.val o.ticket o.source.code o.state.code,
               packed (clerkNumber o.clerk) (OT.clerkState s o.clerk) o.items.length
                 (o.items.filter (fun x => x.voided)).length,
               o.total, o.opened, packed o.callCount ((o.lastStation.map Fin.val).getD 8) 0 0]) noBytes s s t)
    ∧ (∀ l : LinkNo, LU.takes ln (fun k => k == 19) s = true → LU.param ln 1 s = l.val →
      let k := s.link l
      let heard := (k.classHeard.map BitVec.toNat).getD 0
      (∀ p : PrinterNo, l = printerLink p →
        ∃ t, exec .readEquipment s = .next t
          ∧ LU.Served ln (.done
              [packed k.state.code heard (s.printer p).state.code (stopCode (s.printer p).stop),
               (s.printer p).queue.length, (((s.printer p).queue.head?).map LabelJob.serial).getD 0]) noBytes s s t)
      ∧ ((∀ p : PrinterNo, l ≠ printerLink p) →
        ∃ t, exec .readEquipment s = .next t
          ∧ LU.Served ln (.done [packed k.state.code heard 0 0, 0, 0]) noBytes s s t))

/-! ### Printer requests -/

/-- R95 and R96: REPRINT checks the day, the recent labels, the queues and the room in that order; accepted, the label goes to the top of the named
queue, UNSENT, below the job in flight of a BUSY printer, a READY printer sends it at once, and one reprint is counted.
PRINTER_CLEAR empties the queue, stops the timer, and leaves the printer READY with its link UP and DOWN otherwise.
A serial or a printer out of its range is answered BAD_PARAM. -/
def Obligations.PrinterRequestsChangeTheirQueue : Prop :=
  (∀ (ln : Lane) (s : Machine.State), LU.placed ln s = true → badParamsAnswered ln [11, 12] s)
  ∧ ∀ (ln : Lane) (s : Machine.State) (p : PrinterNo), LU.placed ln s = true → firstBadParam ln s = 0 →
    (LU.takes ln (fun k => k == 11) s = true → LU.param ln 2 s = p.val →
      let gives (a : Answer) (u : Machine.State) : Prop :=
        ∃ t, exec .reprint s = .next t ∧ LU.Served ln a noBytes s u t
      let listed := s.lc.recent.find? (fun e => e.serial == LU.param ln 1 s)
      let queued := (s.printer 0).queue.any (fun j => j.serial == LU.param ln 1 s)
        || (s.printer 1).queue.any (fun j => j.serial == LU.param ln 1 s)
      (s.dt.day = .closed → gives (.of .wrongState) s)
      ∧ (s.dt.day ≠ .closed → listed = none → gives (.of .notFound) s)
      ∧ ∀ e, s.dt.day ≠ .closed → listed = some e →
        (queued = true → gives (.of .busy) s)
        ∧ (queued = false → 16 ≤ (s.printer p).queue.length → gives (.of .full) s)
        ∧ (queued = false → (s.printer p).queue.length < 16 →
          let j := { e with kind := .reprint, reprintCount := min (e.reprintCount + 1) 255 }
          let counted := { s with dt := { s.dt with acc := { s.dt.acc with grand := { s.dt.acc.grand with
            reprints := min (s.dt.acc.grand.reprints + 1) 4294967295 } } } }
          gives (.done [j.reprintCount])
            (PQ.send p (counted.modPrinter p (fun q =>
              if q.state = .busy then { q with queue := q.queue.take 1 ++ [j] ++ q.queue.drop 1 }
              else { q with queue := j :: q.queue, topSent := false })))))
    ∧ (LU.takes ln (fun k => k == 12) s = true → LU.param ln 1 s = p.val →
      ∃ t, exec .printerClear s = .next t
        ∧ LU.Served ln (.done [(s.printer p).queue.length]) noBytes s
            (s.modPrinter p (fun q => { q with
              queue := [], topSent := false, timer := none, stop := none
              state := if s.linkUp (printerLink p) then .ready else .down })) t)

/-! ### Ticket and order requests -/

/-- The state in which the ticket of entry `e`, out of the line, has lapsed with its record written (R102): its number free, one lapse counted. -/
def lapsedTicket (e : LineEntry) (s : Machine.State) : Machine.State :=
  JW.counted { s with
    tu := TU.mark e.ticket false s.tu
    dt := { s.dt with acc := { s.dt.acc with grand := { s.dt.acc.grand with
      ticketsLapsed := min (s.dt.acc.grand.ticketsLapsed + 1) 4294967295 } } } }

/-- Why a skipped ticket lapses, if it does; `e` has its skip counted (R111). -/
def skipCause (e : LineEntry) (s : Machine.State) : Option LapseCause :=
  if s.dt.day = .forced then some .close
  else if e.skips = s.tu.settings.skipLimit then some .skipLimit
  else if 64 ≤ s.tu.line.length then some .lineFull
  else none

/-- Why the ticket of a clerk who signs off lapses, if it does (R114). -/
def returnCause (s : Machine.State) : Option LapseCause :=
  if s.dt.day = .forced then some .close else if 64 ≤ s.tu.line.length then some .lineFull else none

/-- Slot `i` free, without a call record, and its clerk without an order (R135). -/
def freedSlot (i : SlotNo) (clerk : Option (Fin 32)) (s : Machine.State) : Machine.State :=
  let s1 := ({ s with tu := { s.tu with calls := s.tu.calls.set i.val none i.isLt } }).setOrder i none
  match clerk with
  | none => s1
  | some k => s1.setClerk k { s1.clerk k with slot := none }

/-- A station has been told that the order of slot `i` was dissolved, and of a no-show when `noShow` is set (R43, R112). -/
def toldDissolved (i : SlotNo) (noShow : Bool) (st : Option Station) (s : Machine.State) : Machine.State :=
  match st with
  | none => s
  | some x => s.modDialogue x (fun d =>
      let d1 := if noShow then { d with noShow := true } else d
      if d.pendingAction = .print ∧ d.pendingDest = some (.slot i) then
        { d1 with pendingAction := .none, pendingBudget := 0, pendingDest := none } else d1)

/-- R105 and R106: ISSUE_TICKET on an OPEN day with room adds the next free number at the bottom of the line with source HOST and counts it;
otherwise WRONG_STATE or FULL. LINE_EDIT moves an entry to the top, or drops it: its number is free, a TICKET_LAPSED record with cause
DROPPED is written, one lapse is counted; a number not in the line answers NOT_FOUND. The drop of the last ticket of a CLOSING day without
orders completes the close (R142), after the lapse's other changes (the model's choice, log 18). -/
def Obligations.LineRequestsChangeTheLine : Prop :=
  ∀ (ln : Lane) (s : Machine.State), LU.placed ln s = true →
    (LU.takes ln (fun k => k == 13) s = true →
      (s.dt.day ≠ .opened → ∃ t, exec .issueTicket s = .next t ∧ LU.Served ln (.of .wrongState) noBytes s s t)
      ∧ (s.dt.day = .opened → 64 ≤ s.tu.line.length →
        ∃ t, exec .issueTicket s = .next t ∧ LU.Served ln (.of .full) noBytes s s t)
      ∧ (s.dt.day = .opened → s.tu.line.length < 64 →
        ∃ t, exec .issueTicket s = .next t
          ∧ LU.Served ln (.done [TU.number s.tu, s.tu.line.length + 1]) noBytes s { s with
              tu := { TU.mark (TU.number s.tu) true s.tu with
                next := if TU.number s.tu = 99 then 1 else TU.number s.tu + 1
                line := s.tu.line ++ [{ ticket := TU.number s.tu, issued := s.dt.clock.time, skips := 0, source := .host }] }
              dt := { s.dt with acc := { s.dt.acc with grand := { s.dt.acc.grand with
                ticketsIssued := min (s.dt.acc.grand.ticketsIssued + 1) 4294967295 } } } } t))
    ∧ (LU.takes ln (fun k => k == 14) s = true → firstBadParam ln s = 0 →
      let found := s.tu.line.find? (fun e => e.ticket == LU.param ln 2 s)
      (found = none → ∃ t, exec .lineEdit s = .next t ∧ LU.Served ln (.of .notFound) noBytes s s t)
      ∧ ∀ e, found = some e →
        let rest := s.tu.line.filter (fun x => x.ticket != e.ticket)
        (LU.param ln 1 s = 0 →
          ∃ t, exec .lineEdit s = .next t
            ∧ LU.Served ln (.done [rest.length + 1]) noBytes s { s with tu := { s.tu with line := e :: rest } } t)
        ∧ (LU.param ln 1 s = 1 → JW.hasRoom 5 s = true → JW.apart ln s = true →
          let v := lapsedTicket e { s with tu := { s.tu with line := rest } }
          (rest ≠ [] ∨ s.dt.close = none →
            ∃ t, exec .lineEdit s = .next t ∧ LU.Served ln (.done [rest.length]) (JW.bytes s) s v t
              ∧ JW.Holds (.ticketLapsed e .dropped) s.dt.clock s t)
          ∧ ∀ j, rest = [] → (s.dt.day = .waiting ∨ s.dt.day = .forced) → s.dt.close = some j → OT.inUse s = [] →
            MP.areaGood s j.area = true →
            ∃ t, exec .lineEdit s = .next t
              ∧ LU.Served ln (.done [0]) (fun x => JW.bytes s x ∨ closeBytes j v x) s (closedDay v) t
              ∧ JW.Holds (.ticketLapsed e .dropped) s.dt.clock s t ∧ closeWritten j v t))

/-- R126: OPEN_ORDER on an OPEN day puts a PARKED host order without clerk and items in the lowest free slot, with the order number of R119 and the
ticket of R100, and answers the number, the ticket and the slot; otherwise WRONG_STATE, or FULL with no slot free. -/
def Obligations.OpenOrderParksAHostOrder : Prop :=
  ∀ (ln : Lane) (s : Machine.State), LU.takes ln (fun k => k == 15) s = true → LU.placed ln s = true →
    (s.dt.day ≠ .opened → ∃ t, exec .openOrder s = .next t ∧ LU.Served ln (.of .wrongState) noBytes s s t)
    ∧ (s.dt.day = .opened → (∀ i, (s.order i).isSome = true) →
      ∃ t, exec .openOrder s = .next t ∧ LU.Served ln (.of .full) noBytes s s t)
    ∧ ∀ i, s.dt.day = .opened → s.order i = none → (∀ j, j < i → (s.order j).isSome = true) →
      let n := OT.number s
      let k := TU.number s.tu
      ∃ t, exec .openOrder s = .next t
        ∧ LU.Served ln (.done [n, k, i.val]) noBytes s { s with
            tu := { TU.mark k true s.tu with next := if k = 99 then 1 else k + 1 }
            ot := { s.ot with
              next := if n = 9999 then 1 else n + 1
              slots := s.ot.slots.set i.val (some {
                number := n, ticket := k, source := .host, state := .parked, clerk := none, items := [], total := 0
                opened := s.dt.clock.time, callCount := 0, lastStation := none }) i.isLt } } t

/-- R134 and R133: VOID_ORDER answers NOT_FOUND for a number no order holds and JOURNAL_FULL with fewer than 5 free records, the order then standing;
otherwise it answers DONE with the number of items and the voided amount, and the order is voided with cause REQUEST. The void of the
last order of a CLOSING day with an empty line completes the close (R142, R145).
(That it completes after the clerk's station has been told of the void is the model's choice, log 18.) -/
def Obligations.VoidOrderVoids : Prop :=
  ∀ (ln : Lane) (s : Machine.State), LU.takes ln (fun k => k == 16) s = true → LU.placed ln s = true →
    firstBadParam ln s = 0 →
    (OT.withNumber s (LU.param ln 1 s) = none →
      ∃ t, exec .voidOrder s = .next t ∧ LU.Served ln (.of .notFound) noBytes s s t)
    ∧ ∀ i o, OT.withNumber s (LU.param ln 1 s) = some (i, o) →
      (JW.lacksRoom 5 s = true → ∃ t, exec .voidOrder s = .next t ∧ LU.Served ln (.of .journalFull) noBytes s s t)
      ∧ (JW.hasRoom 5 s = true → JW.apart ln s = true →
        let v := toldVoid i (o.clerk.bind (fun c => (s.clerk c).station)) (voided i o s)
        let held (t : Machine.State) : Prop :=
          JW.Holds (.orderVoid o.number o.ticket o.source o.clerk o.state o.items.length .request o.total) s.dt.clock s t
        (goesOn i s → ∃ t, exec .voidOrder s = .next t
          ∧ LU.Served ln (.done [o.items.length, o.total]) (JW.bytes s) s v t ∧ held t)
        ∧ ∀ j, endsTheClose i j s → ∃ t, exec .voidOrder s = .next t
          ∧ LU.Served ln (.done [o.items.length, o.total]) (fun x => JW.bytes s x ∨ closeBytes j v x) s (closedDay v) t
          ∧ held t ∧ closeWritten j v t)

/-- The state in which a station has been told of a change of its clerk (R43): no pending print, out of RUN mode. -/
def toldClerk (st : Option Station) (s : Machine.State) : Machine.State :=
  match st with
  | none => s
  | some x => s.modDialogue x (fun d => { (if d.pendingAction = .print then
      { d with pendingAction := .none, pendingBudget := 0, pendingDest := none } else d) with mode := .normal })

/-- R122 and R123: CLERK_OFF makes the clerk OFF and tells the station the clerk was at. A clerk without an order answers NONE; an OPEN order becomes PARKED
without a clerk, and the answer carries its number and ticket. R114: the ticket of a CALLED order goes back to the top of the line, its
skips unchanged, or lapses with cause CLOSE in the forced stage and LINE_FULL with 64 entries, its record written and one lapse counted;
the slot is free. (The close goes on; its completion is told at VOID_ORDER and FORCED_VOID.) -/
def Obligations.ClerkOffSignsTheClerkOff : Prop :=
  ∀ (ln : Lane) (s : Machine.State) (c : Fin 32), LU.takes ln (fun k => k == 17) s = true → LU.placed ln s = true →
    LU.param ln 1 s = c.val + 1 →
    let off := fun u : Machine.State => toldClerk (s.clerk c).station (u.setClerk c { station := none, slot := none })
    ((s.clerk c).slot = none →
      ∃ t, exec .clerkOff s = .next t ∧ LU.Served ln (.done [0, 0, 0]) noBytes s (off s) t)
    ∧ (∀ i o, (s.clerk c).slot = some i → s.order i = some o → o.state = .opened →
      ∃ t, exec .clerkOff s = .next t
        ∧ LU.Served ln (.done [1, o.number, o.ticket]) noBytes s
            (off (s.setOrder i (some { o with state := .parked, clerk := none }))) t)
    ∧ ∀ i o k, (s.clerk c).slot = some i → s.order i = some o → o.state = .called → o.clerk = some c →
        s.callRecord i = some k →
        (returnCause s = none →
          ∃ t, exec .clerkOff s = .next t
            ∧ LU.Served ln (.done [2, o.number, o.ticket]) noBytes s
                (off (freedSlot i (some c) { s with tu := { s.tu with line := k.entry :: s.tu.line } })) t)
        ∧ ∀ cause, returnCause s = some cause → JW.hasRoom 5 s = true → JW.apart ln s = true → goesOn i s →
          ∃ t, exec .clerkOff s = .next t
            ∧ LU.Served ln (.done [3, o.number, o.ticket]) (JW.bytes s) s (off (freedSlot i (some c) (lapsedTicket k.entry s))) t
            ∧ JW.Holds (.ticketLapsed k.entry cause) s.dt.clock s t

/-! ### Completions of price jobs -/

/-- R57 and R58, SWITCH: a job that passes its stages makes its bank, count and CRC active at the next epoch, clears PRICE_FAULT, writes PRICE_SWITCH and
OP_DONE, sets PRICE and tells every channel to look its PLU up again; one that fails leaves the bank, the values, the epoch and the
fault and writes OP_DONE with its failure. The job is then IDLE.
(That the bank is read whole at the completion is the model's choice, log 9; that a channel holds one mark of having been told, log 42.) -/
def Obligations.SwitchCompletionSwitchesTheBank : Prop :=
  ∀ (s : Machine.State) (j : PriceJob) (id : RequestId), s.running = true → s.pu.job = some j → j.type = .switch →
    s.pu.jobRequest = some id →
    (PU.validate s.mem (PU.base s.pu j.bank) j.count j.crc = none → JW.hasRoom 2 s = true →
      let epoch := min (s.pu.epoch + 1) 4294967295
      let u := JW.counted (JW.counted { s with
        pu := { s.pu with active := some j.bank, count := j.count, crc := j.crc, epoch := epoch, fault := false, job := none,
                          jobRequest := none }
        notice := s.notice ||| 0x40#8
        sd := Vector.ofFn (fun st => { s.sd[st] with relookup := true }) })
      ∃ t, exec .switchCompletion s = .next t
        ∧ OnlyDisplays { u with mem := t.mem } t
        ∧ SameBytes (fun x => JW.bytes s x ∨ JW.bytes (JW.counted s) x) s t
        ∧ JW.Holds (.priceSwitch s.pu.active j.bank j.count j.crc epoch) s.dt.clock s t
        ∧ JW.Holds (.opDone id 6 .done none) s.dt.clock (JW.counted s) t)
    ∧ (∀ f, PU.validate s.mem (PU.base s.pu j.bank) j.count j.crc = some f → JW.hasRoom 1 s = true →
      ∃ t, exec .switchCompletion s = .next t
        ∧ OnlyDisplays { JW.counted { s with pu := { s.pu with job := none, jobRequest := none } } with mem := t.mem } t
        ∧ SameBytes (JW.bytes s) s t ∧ JW.Holds (.opDone id 6 .priceFault (some f)) s.dt.clock s t)

/-- R58, CHECK: a job that passes clears PRICE_FAULT (setting PRICE when it was set) and writes OP_DONE with DONE; one that fails sets PRICE_FAULT as R61
gives and writes OP_DONE with its failure. The bank, the recorded values and the epoch stand, and the job is IDLE.
(That the bank is read whole at the completion is the model's choice, log 9.) -/
def Obligations.CheckCompletionSettlesThePriceFault : Prop :=
  ∀ (s : Machine.State) (j : PriceJob) (id : RequestId), s.running = true → s.pu.job = some j → j.type = .check →
    s.pu.jobRequest = some id → JW.hasRoom 1 s = true →
    (PU.validate s.mem (PU.base s.pu j.bank) j.count j.crc = none →
      ∃ t, exec .checkCompletion s = .next t
        ∧ OnlyDisplays { JW.counted { s with
              pu := { s.pu with fault := false, job := none, jobRequest := none }
              notice := s.notice ||| (if s.pu.fault then 0x40#8 else 0#8) } with mem := t.mem } t
        ∧ SameBytes (JW.bytes s) s t ∧ JW.Holds (.opDone id 7 .done none) s.dt.clock s t)
    ∧ (∀ f, PU.validate s.mem (PU.base s.pu j.bank) j.count j.crc = some f →
      ∃ t, exec .checkCompletion s = .next t
        ∧ OnlyDisplays { JW.counted { s with
              pu := { s.pu with fault := true, job := none, jobRequest := none }
              notice := s.notice ||| (if s.pu.fault then 0#8 else 0x40#8)
              sd := if s.pu.fault then s.sd else Vector.ofFn (fun st =>
                if s.sd[st].mode = .normal then s.sd[st]
                else { s.sd[st] with mode := .normal, transient := some .priceFault }) } with mem := t.mem } t
        ∧ SameBytes (JW.bytes s) s t ∧ JW.Holds (.opDone id 7 .priceFault (some f)) s.dt.clock s t)

/-- The state in which PRICE_FAULT has become set (R42, R61): when it was clear, the PRICE flag is set and each station in RUN mode has left it with PRICE
FAULT. -/
def priceFaulted (s : Machine.State) : Machine.State :=
  if s.pu.fault then s
  else { s with
    pu := { s.pu with fault := true }
    notice := s.notice ||| 0x40#8
    sd := Vector.ofFn (fun st =>
      if s.sd[st].mode = .normal then s.sd[st] else { s.sd[st] with mode := .normal, transient := some .priceFault }) }

/-- R42: the re-lookup of a told channel. Found with the same kind, the selection takes the record; with another kind, the pending print is cancelled
too, and RUN is left when the new kind is not WEIGHED; absent, the PLU is deselected with PLU GONE, the repeat flag clear, a PRESET tare
cleared. R52: a record that the lookup finds invalid sets PRICE_FAULT and counts as absent. A channel without a PLU is not changed; nor is one
that no switch has told (log 6). -/
def Obligations.ReLookupFollowsTheNewBank : Prop :=
  ∀ (s : Machine.State) (st : Station), s.running = true →
    let d := s.dialogue st
    let gives (u : Machine.State) : Prop := ∃ t, exec (.reLookup st) s = .next t ∧ OnlyDisplays u t
    (d.relookup = false → gives s)
    ∧ (d.relookup = true → d.selection = none → gives (s.modDialogue st (fun d => { d with relookup := false })))
    ∧ (∀ old r, d.relookup = true → d.selection = some old → PU.lookup s.mem s.pu old.plu = .found r →
      gives (s.modDialogue st (fun d =>
        let d1 := { d with relookup := false, selection := some r }
        if r.kind = old.kind then d1
        else
          let d2 := if d.pendingAction = .print then
              { d1 with pendingAction := .none, pendingBudget := 0, pendingDest := none } else d1
          if r.kind = .weighed then d2 else { d2 with mode := .normal })))
    ∧ (∀ old, d.relookup = true → d.selection = some old →
      let gone (u : Machine.State) : Machine.State := (u.setChannel st (WE.clearPreset (s.channel st))).modDialogue st (fun d =>
        let d1 := { d with relookup := false, selection := none, repeatOn := false, mode := .normal, transient := some .pluGone }
        if d.pendingAction = .print then { d1 with pendingAction := .none, pendingBudget := 0, pendingDest := none } else d1)
      (PU.lookup s.mem s.pu old.plu = .absent → gives (gone s))
      ∧ (PU.lookup s.mem s.pu old.plu = .invalid → gives (gone (priceFaulted s))))

/-! ### Time -/

/-- R138: a tick of the time base moves the clock one second on, over midnight to the next day of the calendar, and at 2099-12-31 23:59:59 to 0 s of the same
date; the running timers counted in seconds have one second less (log 10), and nothing else changes. -/
def Obligations.ClockTickAddsOneSecond : Prop :=
  ∀ s : Machine.State, s.resetPin = false →
    ∃ t, exec .clockTick s = .next t
      ∧ t = { s with dt := t.dt, tu := { s.tu with calls := t.tu.calls }, pq := t.pq }
      ∧ t.dt = { s.dt with
          clock := if s.dt.clock.time < 86399 then { s.dt.clock with time := s.dt.clock.time + 1 }
            else { date := (s.dt.clock.date.next).getD s.dt.clock.date, time := 0 }
          close := s.dt.close.map (fun j => { j with deadline := j.deadline.map (· - 1) }) }
      ∧ (∀ i, t.callRecord i = (s.callRecord i).map (fun c => { c with timer := c.timer.map (· - 1) }))
      ∧ ∀ p, t.printer p = { s.printer p with timer := (s.printer p).timer.map (· - 1) }

/-- R112: a call timer that expires recalls the order while its call count is at most the recall limit: the level one step louder, CALL and LIST to L11,
the number at the head of the serving list, the count one higher, the timer started again. Above the limit the order is skipped: its ticket,
with one more skip, goes to the bottom of the line (while the line has room, the skip limit is not reached and the close is not forced),
the slot and its clerk's order slot are free, and the clerk's station shows NO SHOW.
R110 and R111: RECALL and SKIP want a clerk with a CALLED order. RECALL calls its number again, one step louder, the count one higher and the timer
started again. SKIP sends the ticket to the bottom of the line with one more skip (the line having room, the skip limit not reached, the
close not forced) and frees the slot and the clerk's order slot, with no journal record. Where one of these fails, the ticket lapses with
cause CLOSE, SKIP_LIMIT or LINE_FULL in this order (R102), its record written, its number free, one lapse counted, the slot free as before.
(The close goes on; its completion is told at VOID_ORDER and FORCED_VOID.) -/
def Obligations.CallsAreRecalledOrSkipped : Prop :=
  (∀ (s : Machine.State) (i : SlotNo) (c : CallRecord) (o : Machine.Order) (n : Nat), s.running = true →
      s.callRecord i = some c → c.timer = some n → s.order i = some o →
      (o.callCount ≤ s.tu.settings.recallLimit →
        let level := max 1 (c.level - 1)
        let serving := (o.ticket :: s.tu.serving.filter (fun x => x != o.ticket)).take 4
        let u := LK.hand displayLink (.list serving) (LK.hand displayLink
          (.call o.ticket s.tu.settings.chimeTone level s.tu.settings.envelope) s)
        ∃ t, exec (.callTimerExpiry i) s = .next t
          ∧ OnlyDisplays (({ u with tu := { s.tu with
                serving := serving
                calls := s.tu.calls.set i.val (some { c with timer := some s.tu.settings.callTimeout, level := level }) i.isLt } }).setOrder
              i (some { o with callCount := min (o.callCount + 1) 255 })) t)
      ∧ (s.tu.settings.recallLimit < o.callCount → s.dt.day ≠ .forced → c.entry.skips + 1 ≠ s.tu.settings.skipLimit →
        s.tu.line.length < 64 →
        let u := ({ s with tu := { s.tu with
            line := s.tu.line ++ [{ c.entry with skips := c.entry.skips + 1 }]
            calls := s.tu.calls.set i.val none i.isLt } }).setOrder i none
        let v := match o.clerk with
          | none => u
          | some k => u.setClerk k { s.clerk k with slot := none }
        ∃ t, exec (.callTimerExpiry i) s = .next t
          ∧ OnlyDisplays (match o.clerk.bind (fun k => (s.clerk k).station) with
              | none => v
              | some st => v.modDialogue st (fun d =>
                  let d1 := { d with noShow := true }
                  if d.pendingAction = .print ∧ d.pendingDest = some (.slot i) then
                    { d1 with pendingAction := .none, pendingBudget := 0, pendingDest := none } else d1)) t)
      ∧ ∀ cause, s.tu.settings.recallLimit < o.callCount →
        skipCause { c.entry with skips := c.entry.skips + 1 } s = some cause → JW.hasRoom 5 s = true → goesOn i s →
        let e := { c.entry with skips := c.entry.skips + 1 }
        ∃ t, exec (.callTimerExpiry i) s = .next t
          ∧ OnlyDisplays { toldDissolved i true (o.clerk.bind (fun k => (s.clerk k).station))
              (freedSlot i o.clerk (lapsedTicket e s)) with mem := t.mem } t
          ∧ SameBytes (JW.bytes s) s t ∧ JW.Holds (.ticketLapsed e cause) s.dt.clock s t)
  ∧ (∀ (s : Machine.State) (st : Station) (q : Byte), SD.hears st q s = true →
      let k := SD.keyed st q s
      let gives (c : Instr) (u : Machine.State) : Prop := ∃ t, exec c s = .next t ∧ OnlyDisplays u t
      let refused (m : Message) : Prop :=
        gives (.keyRecall st q) (k.modDialogue st (fun d => { d with transient := some m }))
          ∧ gives (.keySkip st q) (k.modDialogue st (fun d => { d with transient := some m }))
      (OT.clerkAt s st = none → refused .noClerk)
      ∧ (OT.clerkAt s st ≠ none → OT.orderAt s st = none → refused .noOrder)
      ∧ ∀ i o, OT.orderAt s st = some (i, o) →
        (o.state ≠ .called → refused .notAllowed)
        ∧ ∀ c r, o.state = .called → o.clerk = some c → (s.clerk c).station = some st → s.callRecord i = some r →
          (let level := max 1 (r.level - 1)
           let serving := (o.ticket :: s.tu.serving.filter (fun x => x != o.ticket)).take 4
           let called := LK.hand displayLink (.list serving)
             (LK.hand displayLink (.call o.ticket s.tu.settings.chimeTone level s.tu.settings.envelope) k)
           gives (.keyRecall st q) (({ called with tu := { s.tu with
               serving := serving
               calls := s.tu.calls.set i.val (some { r with timer := some s.tu.settings.callTimeout, level := level }) i.isLt } }).setOrder
             i (some { o with callCount := min (o.callCount + 1) 255 })))
          ∧ (s.dt.day ≠ .forced → r.entry.skips + 1 ≠ s.tu.settings.skipLimit → s.tu.line.length < 64 →
            let skipped : Machine.State := { k with tu := { s.tu with
              line := s.tu.line ++ [{ r.entry with skips := r.entry.skips + 1 }]
              calls := s.tu.calls.set i.val none i.isLt } }
            let freed := (skipped.setOrder i none).setClerk c { s.clerk c with slot := none }
            gives (.keySkip st q) (freed.modDialogue st (fun d =>
              if d.pendingAction = .print ∧ d.pendingDest = some (.slot i) then
                { d with pendingAction := .none, pendingBudget := 0, pendingDest := none } else d)))
          ∧ ∀ cause, skipCause { r.entry with skips := r.entry.skips + 1 } s = some cause → JW.hasRoom 5 s = true → goesOn i s →
            let e := { r.entry with skips := r.entry.skips + 1 }
            ∃ t, exec (.keySkip st q) s = .next t
              ∧ OnlyDisplays { toldDissolved i false (some st) (freedSlot i (some c) (lapsedTicket e k)) with mem := t.mem } t
              ∧ SameBytes (JW.bytes s) s t ∧ JW.Holds (.ticketLapsed e cause) s.dt.clock s t)

/-- R143: the deadline timer that expires in the waiting stage begins the forced stage: the line is empty afterwards, every ticket that waited being free and
one lapse counted for each, and the day is CLOSING FORCED with orders left and the timer stopped, or CLOSED when nothing was left. With an empty
line, the order in the lowest slot in use is voided with cause CLOSE and, when it was not the last, the close goes on; with fewer than 5
free records the forcing pauses and nothing else changes (R144); with no order either the close completes in the forced stage (R145).
(That the first forced void stands in the same event is the model's choice, log 20.) -/
def Obligations.DeadlineExpiryBeginsTheForcedStage : Prop :=
  ∀ (s : Machine.State) (j : CloseJob) (n : Nat), s.running = true → s.dt.day = .waiting → s.dt.close = some j →
    j.deadline = some n →
    (∃ t, exec .deadlineExpiry s = .next t ∧ t.tu.line = [] ∧ t.flag .day = true
      ∧ (∀ e ∈ s.tu.line, TU.used t.tu e.ticket = false)
      ∧ (t.dt.day = .closed ∨ (t.dt.day = .forced ∧ OT.inUse t ≠ [] ∧ (∃ k, t.dt.close = some k ∧ k.deadline = none)
          ∧ t.dt.acc.grand.ticketsLapsed = s.tu.line.foldl (fun n _ => min (n + 1) 4294967295) s.dt.acc.grand.ticketsLapsed)))
    ∧ (s.tu.line = [] →
      let forced (f : Forcing) : Machine.State := { s with
        dt := { s.dt with day := .forced, close := some { j with deadline := none, forcing := f } }
        notice := s.notice ||| 0x20#8 }
      (OT.inUse s ≠ [] → JW.lacksRoom 5 s = true →
        ∃ t, exec .deadlineExpiry s = .next t ∧ OnlyDisplays (forced .paused) t)
      ∧ (∀ i o, s.order i = some o → (∀ k, k < i → s.order k = none) → (∃ k, k ≠ i ∧ (s.order k).isSome = true) →
        JW.hasRoom 5 s = true →
        ∃ t, exec .deadlineExpiry s = .next t
          ∧ OnlyDisplays { toldVoid i (o.clerk.bind (fun c => (s.clerk c).station)) (voided i o (forced .active)) with mem := t.mem } t
          ∧ SameBytes (JW.bytes s) s t
          ∧ JW.Holds (.orderVoid o.number o.ticket o.source o.clerk o.state o.items.length .close o.total) s.dt.clock s t)
      ∧ (OT.inUse s = [] → JW.hasRoom 2 s = true → MP.areaGood s j.area = true →
        ∃ t, exec .deadlineExpiry s = .next t
          ∧ OnlyDisplays { closedDay (forced j.forcing) with mem := t.mem } t
          ∧ SameBytes (closeBytes j s) s t ∧ closeWritten j (forced j.forcing) t))

/-- R144: a forced void is of the order in the lowest slot in use, with cause CLOSE; with fewer than 5 free journal records the forcing pauses and the
order stands. While a ticket waits or another order remains, the close goes on; the void of the last order with an empty line completes
the close (R142, R145).
(That each void after the first is a command of its own is the model's choice, log 20; that the close completes after the clerk's station
has been told of the void, log 18.) -/
def Obligations.ForcedVoidTakesTheLowestSlot : Prop :=
  ∀ (s : Machine.State) (j : CloseJob) (i : SlotNo) (o : Machine.Order), s.running = true → s.dt.day = .forced →
    s.dt.close = some j → j.forcing = .active → s.order i = some o → (∀ k, k < i → s.order k = none) →
    (JW.lacksRoom 5 s = true →
      ∃ t, exec .forcedVoid s = .next t
        ∧ OnlyDisplays { s with dt := { s.dt with close := some { j with forcing := .paused } } } t)
    ∧ (JW.hasRoom 5 s = true →
      let v := toldVoid i (o.clerk.bind (fun c => (s.clerk c).station)) (voided i o s)
      let held (t : Machine.State) : Prop :=
        JW.Holds (.orderVoid o.number o.ticket o.source o.clerk o.state o.items.length .close o.total) s.dt.clock s t
      (goesOn i s →
        ∃ t, exec .forcedVoid s = .next t ∧ OnlyDisplays { v with mem := t.mem } t ∧ SameBytes (JW.bytes s) s t ∧ held t)
      ∧ (endsTheClose i j s →
        ∃ t, exec .forcedVoid s = .next t ∧ OnlyDisplays { closedDay v with mem := t.mem } t
          ∧ SameBytes (fun x => JW.bytes s x ∨ closeBytes j v x) s t ∧ held t ∧ closeWritten j v t))

/-! ### Printers -/

/-- The state with `q` for printer `p` and, when `q` is READY with a job, that job sent: its JOB frames handed to the link, the top SENT, the printer BUSY, the
print timer started (R86). -/
def sending (p : PrinterNo) (q : PrintQueue) (s : Machine.State) : Machine.State :=
  match q.queue with
  | [] => s.modPrinter p (fun _ => q)
  | top :: _ =>
    if q.state = .ready then
      (LK.handAll (printerLink p) (jobFrames top) s).modPrinter p
        (fun _ => { q with topSent := true, state := .busy, timer := some q.timeout })
    else s.modPrinter p (fun _ => q)

/-- R87, R88 and R90: a DONE that names the SENT top finishes it: its copy enters the recent labels at the head, once, 32 at most; a BUSY printer, or one
STOPPED with NO_RESPONSE, becomes READY and sends the next top; one STOPPED otherwise stays so, the new top UNSENT. Any other DONE is
ignored. A READY frame resumes a STOPPED printer and is ignored in the other states. -/
def Obligations.DoneAndReadyMoveTheQueue : Prop :=
  ∀ (s : Machine.State) (p : PrinterNo) (n : Word), LK.delivers (printerLink p) s = true →
    let q := s.printer p
    let h := LK.goodFrame (printerLink p) s
    let gives (c : Instr) (u : Machine.State) : Prop := ∃ t, exec c s = .next t ∧ OnlyDisplays u t
    (∀ top rest, q.queue = top :: rest → top.serial = n.toNat → q.topSent = true →
      let listed := { h with lc := { s.lc with
        recent := (top :: s.lc.recent.filter (fun e => e.serial != top.serial)).take 32 } }
      ((q.state = .busy) →
        gives (.printerDone p n) (sending p { q with queue := rest, topSent := false, timer := none, state := .ready } listed))
      ∧ ((q.state = .stopped ∧ q.stop = some .noResponse) →
        gives (.printerDone p n) (sending p { q with queue := rest, topSent := false, stop := none, state := .ready } listed))
      ∧ ((q.state = .stopped ∧ q.stop ≠ some .noResponse) →
        gives (.printerDone p n) (listed.modPrinter p (fun q => { q with queue := rest, topSent := false }))))
    ∧ ((q.topSent = false ∨ ∀ top ∈ q.queue.head?, top.serial ≠ n.toNat) → gives (.printerDone p n) h)
    ∧ (q.state = .stopped → gives (.printerReady p) (sending p { q with stop := none, state := .ready } h))
    ∧ (q.state ≠ .stopped → gives (.printerReady p) h)

/-- R89, R91 and R94: a FAULT stops a printer that is not DOWN with its reason (a code that is none of the three is JAM), and the expiry of a running print
timer stops it with NO_RESPONSE; the timer is stopped, the queue and the top's SENT stay, a PRINTER_EVENT is written (five records being
free) and PRINTER is set. -/
def Obligations.FaultAndTimerStopThePrinter : Prop :=
  ∀ (s : Machine.State) (p : PrinterNo) (code : Byte), JW.hasRoom 5 s = true →
    let q := s.printer p
    let serial := (q.queue.head?.map LabelJob.serial).getD 0
    (LK.delivers (printerLink p) s = true → q.state ≠ .down →
      let reason : StopReason := if code = 1 then .paperOut else if code = 2 then .headOpen else .jam
      ∃ t, exec (.printerFault p code) s = .next t
        ∧ OnlyDisplays { JW.counted ({ LK.goodFrame (printerLink p) s with notice := s.notice ||| 0x10#8 }.modPrinter p
              (fun q => { q with timer := none, state := .stopped, stop := some reason })) with mem := t.mem } t
        ∧ SameBytes (JW.bytes s) s t
        ∧ JW.Holds (.printerEvent (printerLink p) .fault (some reason) serial q.queue.length) s.dt.clock s t)
    ∧ (s.running = true → q.timer.isSome = true →
      ∃ t, exec (.printTimerExpiry p) s = .next t
        ∧ OnlyDisplays { JW.counted ({ s with notice := s.notice ||| 0x10#8 }.modPrinter p
              (fun q => { q with timer := none, state := .stopped, stop := some .noResponse })) with mem := t.mem } t
        ∧ SameBytes (JW.bytes s) s t
        ∧ JW.Holds (.printerEvent (printerLink p) .noResponse none serial q.queue.length) s.dt.clock s t)

/-! ### The dispenser -/

/-- R103 and R182: a TAKE with a new sequence on an OPEN day with room issues the next number to the bottom of the line and answers PRINT_TICKET; on any other
day, or with a full line, the answer is REFUSE and the line stands. The answer is handed to L10 and becomes the last take answer. A TAKE
with the last sequence has that answer sent again and changes nothing else.
R104: a PAPER_OUT has a PRINTER_EVENT written with link L10, event FAULT, reason PAPER_OUT, serial 0 and queue length 0 (five records being free), and sets
PRINTER; the line and the dispenser's sequence stand. -/
def Obligations.DispenserFramesAreTaken : Prop :=
  (∀ (s : Machine.State) (q : Byte), LK.delivers dispenserLink s = true →
      let h := LK.goodFrame dispenserLink s
      let k := s.link dispenserLink
      let answered (f : Frame) (u : Machine.State) : Prop :=
        ∃ t, exec (.take q) s = .next t
          ∧ OnlyDisplays ((LK.hand dispenserLink f (u.modLink dispenserLink (fun l => { l with lastTake := some q }))).modLink
              dispenserLink (fun l => { l with lastTakeAnswer := some f })) t
      (k.lastTake ≠ some q →
        (s.dt.day ≠ .opened → answered (.refuse .closed) h)
        ∧ (s.dt.day = .opened → 64 ≤ s.tu.line.length → answered (.refuse .full) h)
        ∧ (s.dt.day = .opened → s.tu.line.length < 64 →
          answered (.printTicket (TU.number s.tu) s.dt.clock.time) { h with
            tu := { TU.mark (TU.number s.tu) true s.tu with
              next := if TU.number s.tu = 99 then 1 else TU.number s.tu + 1
              line := s.tu.line ++ [{ ticket := TU.number s.tu, issued := s.dt.clock.time, skips := 0, source := .dispenser }] }
            dt := { s.dt with acc := { s.dt.acc with grand := { s.dt.acc.grand with
              ticketsIssued := min (s.dt.acc.grand.ticketsIssued + 1) 4294967295 } } } }))
      ∧ (k.lastTake = some q → ∃ t, exec (.take q) s = .next t
          ∧ OnlyDisplays (match k.lastTakeAnswer with
              | some f => LK.hand dispenserLink f h
              | none => h) t))
  ∧ (∀ s : Machine.State, LK.delivers dispenserLink s = true → JW.hasRoom 5 s = true →
      ∃ t, exec .paperOut s = .next t
        ∧ OnlyDisplays { JW.counted { LK.goodFrame dispenserLink s with notice := s.notice ||| 0x10#8 } with mem := t.mem } t
        ∧ SameBytes (JW.bytes s) s t
        ∧ JW.Holds (.printerEvent 10 .fault (some .paperOut) 0 0) s.dt.clock s t)

/-! ### Links -/

/-- The sixteen keys' commands at a station with a sequence; a DIGIT key carries the digit `n`. -/
def keyCommands (st : Station) (q : Byte) (n : Fin 10) : List Instr :=
  [.keyDigit st q n, .keyClear st q, .keyPlu st q, .keyRepeat st q, .keyZero st q, .keyTare st q,
   .keyPrint st q, .keyRun st q, .keyClerk st q, .keyNext st q, .keyRecall st q, .keySkip st q, .keyOrder st q,
   .keyPark st q, .keyTotal st q, .keyVoid st q]

/-- The state in which a station's link has been lost (R8, R43, R124): the channel in NONE, the buffer empty, no pending action, out of RUN mode, no
clerk at the station. -/
def stationLost (st : Station) (s : Machine.State) : Machine.State :=
  withoutClerk st ((s.setChannel st { s.channel st with
      state := .none, shown := none, range := none, zeroLit := false, netLit := false }).modDialogue st (fun d => { d with
    buffer := [], pendingAction := .none, pendingBudget := 0, pendingDest := none, mode := .normal, zeroFailure := false }))

/-- The state in which a station's link has come up (R7, R179): no sample and no key sequence, the channel of an ENABLED station cleared, any other in
NONE, the last display empty. -/
def stationRaised (st : Station) (s : Machine.State) : Machine.State :=
  let ch := s.channel st
  let off : Channel := { ch with state := .none, shown := none, range := none, zeroLit := false, netLit := false }
  ((s.modLink (stationLink st) (fun k => { k with lastSample := none, lastKey := none })).setChannel st
    (match ch.settings with
     | some c => if ch.enabled then cleared c ch else off
     | none => off)).modDialogue st (fun d => { d with
    lastDisplay := none, zeroFailure := ch.enabled && ch.settings.isSome && d.zeroFailure })

/-- R177: a HELLO on an open link leaves it UP when its class is the one the link expects and MISMATCH otherwise, from every state; the class heard is the
HELLO's, the silence timer runs with the timeout, the other links keep their states, and an outgoing list that was empty, or is emptied as the
link leaves UP, begins with the WELCOME. A restart of a link that is UP leaves the list standing, the WELCOME joining at its tail (R176). A HELLO of the display on a DOWN link is answered with WELCOME and the serving list (R109),
and nothing else changes. Outside RUNNING the links are closed (R174).
R179: what the owners do at a link-up. A station's channel is cleared (R7), its sequences are none, and its full display joins after the WELCOME;
a restart of a link that is UP loses it first. A printer becomes READY and sends its top job (R92). The dispenser's sequence and answer are none.
An entry into MISMATCH writes its record (five records being free) and sets STATION or PRINTER; a HELLO of another class in MISMATCH gives a
WELCOME alone.
(That a class outside 1 to 4 is another class is the model's choice, log 15.) -/
def Obligations.HelloSettlesTheLinkState : Prop :=
  (∀ (s : Machine.State) (l : LinkNo) (cls : Byte),
    (s.running = true →
      let expected := decide (cls.toNat = (expectedClass l).code)
      ∃ t, exec (.hello l cls) s = .next t
        ∧ (t.link l).state = (if expected then .up else .mismatch) ∧ (t.link l).classHeard = some cls
        ∧ (t.link l).silence = some (LK.timeout s l) ∧ (t.link l).rx = []
        ∧ (∀ l', l' ≠ l → (t.link l').state = (s.link l').state ∧ (t.link l').classHeard = (s.link l').classHeard)
        ∧ (((s.link l).state = .up ∧ expected = false) ∨ (s.link l).out = [] →
            (t.link l).out.head? = some (.welcome l (expectedClass l) expected))
        ∧ ((s.link l).state = .up → expected = true → 8 ≤ l.val → (s.link l).out.length < 6 →
            ∃ rest, (t.link l).out = (s.link l).out ++ .welcome l (expectedClass l) true :: rest))
    ∧ (s.running = true → (s.link displayLink).state = .down → (s.link displayLink).out = [] →
      ∃ t, exec (.hello displayLink 4) s = .next t
        ∧ OnlyDisplays (s.modLink displayLink (fun k => { k with
            state := .up, classHeard := some 4, rx := [], silence := some 500
            out := [.welcome displayLink .display true, .list s.tu.serving] })) t)
    ∧ (s.running = false → ∃ t, exec (.hello l cls) s = .next t ∧ OnlyDisplays s t))
  ∧ (∀ (s : Machine.State) (st : Station), s.running = true →
      let l := stationLink st
      let met (v : Machine.State) : Machine.State := (stationRaised st v).modLink l (fun k => { k with
        state := .up, classHeard := some 1, rx := [], silence := some (LK.timeout s l), out := k.out ++ [.welcome l .scaleHead true] })
      let raises (u : Machine.State) (out : Option (List Frame)) : Prop := ∃ t, exec (.hello l 1) s = .next t ∧ OnlyDisplays u t
        ∧ (t.dialogue st).lastDisplay = some (SD.content st u)
        ∧ ∀ o, out = some o → (t.link l).out = o
      ((s.link l).state ≠ .up → (s.link l).out = [] →
          raises (met s) (some [.welcome l .scaleHead true, .display (SD.content st (met s))]))
        ∧ ((s.link l).state = .up → (s.link l).out.length < 8 →
          raises (met (stationLost st s)) (joinOutgoing l (.display (SD.content st (met (stationLost st s))))
            ((s.link l).out ++ [.welcome l .scaleHead true]))))
  ∧ (∀ (s : Machine.State) (p : PrinterNo), s.running = true → (s.link (printerLink p)).state ≠ .up →
      (s.link (printerLink p)).out = [] →
      ∃ t, exec (.hello (printerLink p) 2) s = .next t
        ∧ OnlyDisplays (sending p { s.printer p with state := .ready } (s.modLink (printerLink p) (fun k => { k with
            state := .up, classHeard := some 2, rx := [], silence := some 500
            out := [.welcome (printerLink p) .printer true] }))) t)
  ∧ (∀ s : Machine.State, s.running = true → (s.link dispenserLink).state ≠ .up → (s.link dispenserLink).out = [] →
      ∃ t, exec (.hello dispenserLink 3) s = .next t
        ∧ OnlyDisplays (s.modLink dispenserLink (fun k => { k with
            state := .up, classHeard := some 3, rx := [], silence := some 500
            out := [.welcome dispenserLink .dispenser true], lastTake := none, lastTakeAnswer := none })) t)
  ∧ ∀ (s : Machine.State) (l : LinkNo) (cls : Byte), s.running = true → cls.toNat ≠ (expectedClass l).code →
      let refused (v : Machine.State) : Machine.State := v.modLink l (fun k => { k with
        state := .mismatch, classHeard := some cls, rx := [], silence := some (LK.timeout s l)
        out := [.welcome l (expectedClass l) false] })
      let enters (flag : BitVec 8) (r : RecordBody) (v : Machine.State) : Prop :=
        ∃ t, exec (.hello l cls) s = .next t
          ∧ OnlyDisplays { JW.counted { refused v with notice := s.notice ||| flag } with mem := t.mem } t
          ∧ SameBytes (JW.bytes s) s t ∧ JW.Holds r s.dt.clock s t
      ((s.link l).state = .mismatch → (s.link l).out = [] → ∃ t, exec (.hello l cls) s = .next t ∧ OnlyDisplays (refused s) t)
      ∧ (JW.hasRoom 5 s = true →
        (∀ st : Station, l = stationLink st →
          ((s.link l).state = .down → (s.link l).out = [] →
            enters 0x08#8 (.stationEvent .mismatch (some st) 0 0 0 1 cls.toNat) s)
          ∧ ((s.link l).state = .up →
            enters 0x08#8 (.stationEvent .mismatch (some st) 0 0 0 1 cls.toNat) (stationLost st s)))
        ∧ ((s.link l).state = .down → (s.link l).out = [] →
          (∀ p : PrinterNo, l = printerLink p →
            enters 0x10#8 (.printerEvent l .mismatch none 0 (s.printer p).queue.length) s)
          ∧ (l = dispenserLink ∨ l = displayLink → enters 0x10#8 (.printerEvent l .mismatch none 0 0) s)))

/-- R175, R177 and R178: an ALIVE restarts the silence timer of a link that is UP or MISMATCH with the timeout as it stands, leaves a DOWN link without a
timer, and changes nothing else. So does every frame but HELLO on a link that is not UP: it is discarded, and no block is told. -/
def Obligations.FramesOutsideUpOnlyRestartTheTimer : Prop :=
  ∀ (s : Machine.State) (l : LinkNo), s.running = true →
    let up := s.modLink l (fun k => { k with rx := [], silence := some (LK.timeout s l) })
    let down := s.modLink l (fun k => { k with rx := [] })
    let gives (c : Instr) (u : Machine.State) : Prop := ∃ t, exec c s = .next t ∧ OnlyDisplays u t
    ((s.link l).state ≠ .down → gives (.alive l) up)
    ∧ ((s.link l).state = .down → gives (.alive l) down)
    ∧ ∀ c, ((∃ (st : Station) (raw : BitVec 24) (q : Byte), l = stationLink st ∧ c = .sample st raw q)
        ∨ (∃ (st : Station) (q : Byte) (n : Fin 10), l = stationLink st ∧ c ∈ keyCommands st q n)
        ∨ (∃ (p : PrinterNo) (n : Word) (code : Byte), l = printerLink p
            ∧ (c = .printerDone p n ∨ c = .printerFault p code ∨ c = .printerReady p))
        ∨ (∃ q : Byte, l = dispenserLink ∧ (c = .take q ∨ c = .paperOut))) →
      ((s.link l).state = .mismatch → gives c up) ∧ ((s.link l).state = .down → gives c down)

/-- R178, R8, R43, R93 and R124: the expiry of a running silence timer makes the link DOWN with the timer stopped. In MISMATCH the owners are not told. In
UP the outgoing list is emptied and the owner told: a station's channel goes to NONE and its clerk leaves; a printer that is not DOWN becomes
DOWN with its queue kept and its top UNSENT; the serving display changes nothing. -/
def Obligations.SilenceTakesTheLinkDown : Prop :=
  ∀ (s : Machine.State) (l : LinkNo) (n : Nat), s.running = true → (s.link l).silence = some n →
    let down := s.modLink l (fun k => { k with state := .down, silence := none })
    let lost := s.modLink l (fun k => { k with state := .down, silence := none, out := [] })
    let gives (u : Machine.State) : Prop := ∃ t, exec (.silenceTimerExpiry l) s = .next t ∧ OnlyDisplays u t
    ((s.link l).state ≠ .up → gives down)
    ∧ ((s.link l).state = .up → l = displayLink → gives lost)
    ∧ (∀ st : Station, (s.link l).state = .up → l = stationLink st →
      gives (stationLost st lost))
    ∧ (∀ p : PrinterNo, (s.link l).state = .up → l = printerLink p → (s.printer p).state ≠ .down →
      ∃ t, exec (.silenceTimerExpiry l) s = .next t ∧ t.link l = { s.link l with state := .down, silence := none, out := [] }
        ∧ t.printer p = { s.printer p with state := .down, stop := none, timer := none, topSent := false }
        ∧ (∀ p', p' ≠ p → t.printer p' = s.printer p') ∧ t.flag .printer = true)
    ∧ ((s.link l).state = .up → l = dispenserLink →
      ∃ t, exec (.silenceTimerExpiry l) s = .next t ∧ t.link l = { s.link l with state := .down, silence := none, out := [] }
        ∧ t.tu = s.tu ∧ t.flag .printer = true)

/-- R175: bytes in which the receiver of an open link completes no good frame change nothing but the bytes it holds; on a closed link (R174) bytes change
nothing.
(What bytes BAD_FRAME carries is the model's choice, log 16.) -/
def Obligations.BadFramesLeaveNoTrace : Prop :=
  ∀ (s : Machine.State) (l : LinkNo) (bytes : List Byte),
    (s.running = true → (receive (s.link l).rx bytes).1 = [] →
      ∃ t, exec (.badFrame l bytes) s = .next t
        ∧ OnlyDisplays (s.modLink l (fun k => { k with rx := (receive (s.link l).rx bytes).2 })) t)
    ∧ (s.running = false → ∃ t, exec (.badFrame l bytes) s = .next t ∧ OnlyDisplays s t)

/-- R175: a HUNTING receiver that is given the bytes of a frame, after any bytes without a SYNC, finds exactly that frame, kind and payload, and hunts again; a
payload has 1 to 250 bytes.
(The count of LENGTH + 4 bytes after the SYNC is read from the rule, log 16.) -/
def Obligations.ReceiverReadsWhatAFrameSpells : Prop :=
  ∀ (noise payload : List Byte) (kind : Byte), 1 ≤ payload.length → payload.length ≤ 250 → (∀ b ∈ noise, b ≠ 0xA5) →
    receive [] (noise ++ frameBytes kind payload) = ([(kind, payload)], [])

/-- R176: what a full outgoing list does with a ninth frame: on L0 to L7 a DISPLAY takes the place of a waiting DISPLAY at any length; on L10 an answer does
not join eight frames; on L11 the oldest waiting LIST leaves for it, without one the oldest waiting CALL. A list shorter than eight takes
any other frame at its tail.
R176: the frame at the head of the outgoing list leaves it when it has been sent, and nothing else changes.
(That the frame being sent stands at the head, and "waiting" means the rest, is the model's choice, log 12.) -/
def Obligations.OutgoingListsSendAndHoldEight : Prop :=
  (∀ (l : LinkNo) (f : Frame) (h : Frame) (ws : List Frame),
      (f.isDisplay = false ∨ (∀ x ∈ ws, x.isDisplay = false) → ws.length < 7 → joinOutgoing l f (h :: ws) = some (h :: ws ++ [f]))
      ∧ (∀ a b g, ws = a ++ g :: b → f.isDisplay = true → g.isDisplay = true → (∀ x ∈ a, x.isDisplay = false) →
          joinOutgoing l f (h :: ws) = some (h :: a ++ f :: b))
      ∧ (ws.length = 7 → f.isTakeAnswer = true → joinOutgoing l f (h :: ws) = some (h :: ws))
      ∧ (∀ a b g, ws = a ++ g :: b → ws.length = 7 → l = 11 → (f.isList = true ∨ f.isCall = true) → g.isList = true →
          (∀ x ∈ a, x.isList = false) → joinOutgoing l f (h :: ws) = some (h :: a ++ b ++ [f]))
      ∧ (∀ a b g, ws = a ++ g :: b → ws.length = 7 → l = 11 → (f.isList = true ∨ f.isCall = true) → g.isCall = true →
          (∀ x ∈ ws, x.isList = false) → (∀ x ∈ a, x.isCall = false) →
          joinOutgoing l f (h :: ws) = some (h :: a ++ b ++ [f])))
  ∧ (∀ (s : Machine.State) (l : LinkNo), s.running = true →
      ∃ t, exec (.outgoingFrameSent l) s = .next t ∧ t = s.modLink l (fun k => { k with out := (s.link l).out.drop 1 }))

/-! ### Samples -/

/-- A channel after a successful check of the initial zero on its current average (R12, R17): both offsets at average − cal_zero, STABLE, gross 0, the
net, range and shown weight of the tare, ZERO lit. -/
def zeroed (c : Settings) (ch : Channel) : Channel :=
  let offset := ch.average - c.cal.calZero
  let net := -ch.tare
  let one := decide (c.cal.range1Max = 0 ∨ net ≤ c.cal.range1Max ∨ net < 0)
  let d := if one then c.cal.d1 else c.cal.d2
  { ch with
    zeroTried := true, initialOffset := offset, zeroOffset := offset, state := .stable, gross := 0, net := net
    range := some (if one then .one else .two), shown := some (roundDiv net d * d), zeroLit := true
    netLit := ch.tareKind != .none }

/-- R9 to R16 at a station in NORMAL mode with no pending action: the ring takes the count and keeps its newest `filter_len`; the average is its
rounded mean; the counter restarts at a gap (R180) or outside the motion band and else falls by one, 0 at least.
In MOTION, STABLE, OVER and UNDER the gross is the rounded conversion; above the overload limit the state is OVER, below the underload limit
UNDER, without shown weight and range; within them it is MOTION with the counter restarted after OVER and UNDER, and else STABLE at counter 0 and
MOTION above it (R13), with the net, the range, the shown weight and the indicators. Zero tracking, when set, in STABLE without a tare, the
gross in the zero band and the candidate in the zero range, takes the candidate as the zero offset, and the gross is 0 (R14).
In ZEROING the arrival ends there while the counter is above 0 or zero has been tried; else the initial zero is checked: within a tenth of the
capacity the channel is zeroed, and outside it stays in ZEROING with NO ZERO (R12).
R9: a SAMPLE at a channel in NONE is discarded: only LK's sequence and timer change. -/
def Obligations.SamplesGiveTheWeight : Prop :=
  (∀ (s : Machine.State) (st : Station) (raw : BitVec 24) (q : Byte) (c : Settings),
      LK.delivers (stationLink st) s = true → (s.channel st).settings = some c → (s.dialogue st).pendingAction = .none →
      (s.dialogue st).mode = .normal →
      let ch := s.channel st
      let gap := match (s.link (stationLink st)).lastSample with
        | none => false
        | some n => q != n + 1
      let all := ch.ring ++ [raw.toInt]
      let ring := all.drop (all.length - c.filterLen)
      let average := roundDiv ring.sum ring.length
      let counter := if gap = true ∨ (c.motionBand : Int) < |raw.toInt - average| then c.stableCount else ch.stable - 1
      let offset := average - c.cal.calZero
      let taken : Channel := { ch with ring := ring, average := average, stable := counter }
      let gives (ch' : Channel) (failed : Bool) : Prop :=
        ∃ t, exec (.sample st raw q) s = .next t
          ∧ OnlyDisplays ((((LK.goodFrame (stationLink st) s).modLink (stationLink st)
              (fun k => { k with lastSample := some q })).setChannel st ch').modDialogue st
                (fun d => { d with zeroFailure := failed })) t
      (ch.state = .motion ∨ ch.state = .stable ∨ ch.state = .over ∨ ch.state = .under →
        let gross := roundDiv ((offset - ch.zeroOffset) * c.cal.spanNum) c.cal.spanDen
        let weighed : Channel := { taken with gross := gross, net := gross - ch.tare, netLit := ch.tareKind != .none }
        let top := if c.cal.range1Max ≠ 0 then c.cal.d2 else c.cal.d1
        let stable := if ch.state = .over ∨ ch.state = .under then c.stableCount else counter
        let still := decide (stable = 0 ∧ ch.state ≠ .over ∧ ch.state ≠ .under)
        let tracks := decide (c.zeroTracking = true ∧ still = true ∧ ch.tareKind = .none ∧ 2 * |gross| < (c.cal.d1 : Int)
          ∧ |(offset - ch.initialOffset) * c.cal.spanNum| * 25 ≤ (c.cal.capacity : Int) * c.cal.spanDen)
        let g := if tracks then 0 else gross
        let net := g - ch.tare
        let one := decide (c.cal.range1Max = 0 ∨ net ≤ c.cal.range1Max ∨ net < 0)
        let d := if one then c.cal.d1 else c.cal.d2
        gives
          (if (c.cal.capacity : Int) + 9 * top < gross then
            { weighed with state := .over, shown := none, range := none, zeroLit := false }
          else if gross < -(20 * (c.cal.d1 : Int)) then
            { weighed with state := .under, shown := none, range := none, zeroLit := false }
          else
            { weighed with
              state := if still then .stable else .motion, stable := stable
              zeroOffset := if tracks then offset else ch.zeroOffset, gross := g, net := net
              range := some (if one then .one else .two), shown := some (roundDiv net d * d)
              zeroLit := decide (still = true ∧ 4 * |g| ≤ (c.cal.d1 : Int)) }) false)
      ∧ (ch.state = .zeroing →
        let inRange := decide (10 * |roundDiv (offset * c.cal.spanNum) c.cal.spanDen| ≤ (c.cal.capacity : Int))
        (counter ≠ 0 ∨ ch.zeroTried = true → gives taken (s.dialogue st).zeroFailure)
        ∧ (counter = 0 → ch.zeroTried = false → inRange = true → gives (zeroed c taken) false)
        ∧ (counter = 0 → ch.zeroTried = false → inRange = false → gives { taken with zeroTried := true } true)))
  ∧ (∀ (s : Machine.State) (st : Station) (raw : BitVec 24) (q : Byte), LK.delivers (stationLink st) s = true →
      (s.channel st).state = .none →
      ∃ t, exec (.sample st raw q) s = .next t
        ∧ OnlyDisplays ((LK.goodFrame (stationLink st) s).modLink (stationLink st) (fun k => { k with lastSample := some q })) t)

/-- The item record of a commit at a station (R37). -/
def committed (st : Station) (p : Priced) (number : Nat) (s : Machine.State) : Item :=
  { number := number, plu := p.record.plu, kind := p.record.kind, epoch := p.epoch, department := p.record.department,
    net := p.net, count := p.count, tare := p.tare, unitPrice := p.record.unitPrice, markdown := p.record.markdown,
    amount := p.amount, serial := LC.serial s, station := st, clerk := OT.clerkAt s st, pricedAt := s.dt.clock,
    voided := false }

/-- The message with which step 5 or 6 of R36 refuses the priced item `pr`, if one does; `dest` is the destination order, `none` for a loose item. -/
def placeRefusal (st : Station) (dest : Option (SlotNo × Machine.Order)) (pr : Priced) (s : Machine.State) : Option Message :=
  let label := if LC.layout s pr.record.layout = none then some .notAllowed
    else if PQ.choose s st = none then some .noPrinter else none
  match dest with
  | some (_, o) => if 40 ≤ o.items.length then some .orderFull else if 9999999 < o.total + pr.amount then some .priceLimit else label
  | none => if JW.free s < 5 then some .journalFull else label

/-- R37: what the admitted commit of `pr` at a station in state `s` leaves in `t`. The label is composed with the next serial and queued, the serial
after it is the next one, and one label is counted. The item joins the destination order (a CALLED order becomes OPEN, its call record gone),
or, loose, the journal and the accumulators. The PLU stays selected when `keep` is set. No action is pending, and no message is left. -/
def itemCommitted (st : Station) (keep : Bool) (dest : Option (SlotNo × Machine.Order)) (pr : Priced) (s t : Machine.State) : Prop :=
  (t.dialogue st).pendingAction = .none ∧ (t.dialogue st).transient = none
    ∧ (t.dialogue st).selection = (if keep then (s.dialogue st).selection else none)
    ∧ t.dt.acc.grand.labelsIssued = min (s.dt.acc.grand.labelsIssued + 1) 4294967295
    ∧ t.lc.nextSerial = (if LC.serial s = 999999 then 1 else LC.serial s + 1)
    ∧ (∃ layout p, LC.layout s pr.record.layout = some layout ∧ PQ.choose s st = some p
        ∧ (t.printer p).queue = (s.printer p).queue ++ [{
            serial := LC.serial s, kind := .item, reprintCount := 0, station := st, orderNumber := dest.map (fun x => x.2.number)
            text := composeLabel layout (itemValues pr (dest.map Prod.snd) (OT.clerkAt s st) st s.dt.clock.date (LC.serial s)) }])
    ∧ match dest with
      | some (i, o) =>
        t.order i = some { o with
            items := o.items ++ [committed st pr (o.items.length + 1) s], total := o.total + pr.amount
            lastStation := some st, state := if o.state = .called then .opened else o.state }
          ∧ (∀ k, k ≠ i → t.order k = s.order k) ∧ (o.state = .called → t.callRecord i = none) ∧ t.jw = s.jw ∧ t.mem = s.mem
      | none =>
        t.jw.written = s.jw.written + 1 ∧ JW.Holds (.item 0 0 (committed st pr 1 s)) s.dt.clock s t
          ∧ SameBytes (JW.bytes s) s t ∧ t.ot = s.ot
          ∧ t.dt.acc.grand.amount = s.dt.acc.grand.amount + pr.amount
          ∧ t.dt.acc.grand.looseItems = min (s.dt.acc.grand.looseItems + 1) 4294967295

/-- R34: an arrival that finds a pending print with budget n ≥ 1 and leaves the channel in MOTION takes one from the budget: above 0 the print waits, at 0 it is
cancelled with UNSTABLE; in OVER and UNDER it is cancelled with that message. In STABLE it ends in its commit on this report (R36, R37), or in
the refusal's message. (The commit is told for a channel without a PRESET tare, which the deselection of the PLU would clear.)
R21: an arrival settles a pending tare on the weight it gives: in STABLE the TARE key is carried out as R19 gives, with its refusals; in OVER and UNDER it is
cancelled with that message; in MOTION the budget falls by one, and at 0 it is cancelled with UNSTABLE. -/
def Obligations.PendingActionsSettleAtArrivals : Prop :=
  (∀ (s : Machine.State) (st : Station) (raw : BitVec 24) (q : Byte) (t : Machine.State),
      LK.delivers (stationLink st) s = true → (s.channel st).state ≠ .none → (s.channel st).settings.isSome = true →
      (s.dialogue st).pendingAction = .print → 1 ≤ (s.dialogue st).pendingBudget → (s.dialogue st).mode = .normal →
      exec (.sample st raw q) s = .next t →
      ((t.channel st).state = .motion → 2 ≤ (s.dialogue st).pendingBudget →
        (t.dialogue st).pendingAction = .print ∧ (t.dialogue st).pendingBudget = (s.dialogue st).pendingBudget - 1)
      ∧ ((t.channel st).state = .motion → (s.dialogue st).pendingBudget = 1 →
        (t.dialogue st).pendingAction = .none ∧ (t.dialogue st).transient = some .unstable)
      ∧ ((t.channel st).state = .over →
        (t.dialogue st).pendingAction = .none ∧ (t.dialogue st).transient = some .over)
      ∧ ((t.channel st).state = .under →
        (t.dialogue st).pendingAction = .none ∧ (t.dialogue st).transient = some .under)
      ∧ ((t.channel st).state = .stable → (t.dialogue st).pendingAction = .none)
      ∧ ∀ c sel r, (t.channel st).state = .stable → (s.channel st).tareKind ≠ .preset → (s.channel st).settings = some c →
        (s.dialogue st).selection = some sel → s.dt.day = .opened ∨ s.dt.day = .waiting → s.pu.fault = false →
        PU.lookup s.mem s.pu sel.plu = .found r →
        let dest := OT.orderAt s st
        let refused (m : Message) : Prop := (t.dialogue st).pendingAction = .none ∧ (t.dialogue st).transient = some m
          ∧ (t.dialogue st).selection = some sel ∧ t.ot = s.ot ∧ t.jw = s.jw ∧ t.mem = s.mem ∧ t.pq = s.pq ∧ t.lc = s.lc ∧ t.dt = s.dt
        let priced := PU.price s.pu.epoch sel.kind (t.channel st) none r
        (dest = none → c.looseAllowed = false → refused .notAllowed)
        ∧ (dest ≠ none ∨ c.looseAllowed = true →
          (∀ m, priced = .error m → refused m)
          ∧ ∀ pr, priced = .ok pr → (dest = none → JW.hasRoom 0 s = true) →
            match placeRefusal st dest pr s with
            | some m => refused m
            | none => itemCommitted st (s.dialogue st).repeatOn dest pr s t)
)
  ∧ (∀ (s : Machine.State) (st : Station) (raw : BitVec 24) (q : Byte) (c : Settings) (t : Machine.State),
      LK.delivers (stationLink st) s = true → (s.channel st).state ≠ .none → (s.channel st).settings = some c → 0 < c.cal.d1 →
      (s.dialogue st).pendingAction = .tare → (s.dialogue st).mode = .normal → exec (.sample st raw q) s = .next t →
      let ch := s.channel st
      let ch' := t.channel st
      let ends (m : Option Message) : Prop := (t.dialogue st).pendingAction = .none
        ∧ (t.dialogue st).transient = (if m.isSome then m else (s.dialogue st).transient)
      let stands : Prop := ch'.tareKind = ch.tareKind ∧ ch'.tare = ch.tare
      let keyed := roundDiv ch'.gross c.cal.d1 * c.cal.d1
      let limit := if c.cal.range1Max ≠ 0 then c.cal.range1Max else c.cal.capacity
      (ch'.state = .stable → ch.tareKind ≠ .none → 2 * |ch'.gross| < (c.cal.d1 : Int) →
        ends none ∧ ch'.tareKind = .none ∧ ch'.tare = 0 ∧ ch'.net = ch'.gross ∧ ch'.netLit = false)
      ∧ (ch'.state = .stable → (c.cal.d1 : Int) ≤ 2 * ch'.gross → (limit : Int) < keyed → ends (some .tareLimit) ∧ stands)
      ∧ (ch'.state = .stable → (c.cal.d1 : Int) ≤ 2 * ch'.gross → keyed ≤ (limit : Int) →
        ends none ∧ ch'.tareKind = .keyed ∧ ch'.tare = keyed ∧ ch'.net = ch'.gross - keyed ∧ ch'.netLit = true)
      ∧ (ch'.state = .stable → ch.tareKind = .none → 2 * |ch'.gross| < (c.cal.d1 : Int) → ends none ∧ stands)
      ∧ (ch'.state = .stable → 2 * ch'.gross ≤ -(c.cal.d1 : Int) → ends (some .notAllowed) ∧ stands)
      ∧ (ch'.state = .over → ends (some .over) ∧ stands) ∧ (ch'.state = .under → ends (some .under) ∧ stands)
      ∧ (ch'.state = .motion → stands
        ∧ ((s.dialogue st).pendingBudget ≤ 1 → ends (some .unstable))
        ∧ (2 ≤ (s.dialogue st).pendingBudget →
          (t.dialogue st).pendingAction = .tare ∧ (t.dialogue st).pendingBudget = (s.dialogue st).pendingBudget - 1)))

/-! ### Displays and the journal -/

/-- The display of a station stands as composed in `t`: with its link UP, the last display is the content (R46). -/
def shows (st : Station) (t : Machine.State) : Prop :=
  t.linkUp (stationLink st) = true → (t.dialogue st).lastDisplay = some (SD.content st t)

/-- The command composes the displays of the stations it has told, `st` among them: the next state is what SD.flush leaves, with `st` told before it. -/
def composes (c : Instr) (st : Station) (s : Machine.State) : Prop :=
  ∃ u, exec c s = .next (SD.flush u) ∧ u.told[st] = true ∧ shows st (SD.flush u)

/-- R46: after a command each told station whose link is UP has its display composed. A content that differs from the last display becomes it, and its DISPLAY
frame is handed to the link; an equal content, a link that is not UP and a station that was not told change nothing.
Which stations the commands tell: a taken key, a SAMPLE at a channel in a state other than NONE, a HELLO of a scale head, the loss of its link and a
re-lookup tell their station; a skip, a void and a sign-off tell the station of the clerk; a close that completes, and a bank whose check sets
PRICE_FAULT, tell every station; a reload and every action of STATION_MODE tell the station they name.
(That this is done once, at the end of the event, is the model's choice, log 11.) -/
def Obligations.DisplaysAreSentWhenTheyChange : Prop :=
  (∀ (s : Machine.State) (st : Station),
    OnlyDisplays s (SD.flush s)
    ∧ (s.told[st] = true → s.linkUp (stationLink st) = true →
        ((SD.flush s).dialogue st).lastDisplay = some (SD.content st s))
    ∧ (s.told[st] = true → s.linkUp (stationLink st) = true → (s.dialogue st).lastDisplay ≠ some (SD.content st s) →
        ∀ out, joinOutgoing (stationLink st) (.display (SD.content st s)) (s.link (stationLink st)).out = some out →
          ((SD.flush s).link (stationLink st)).out = out)
    ∧ (s.told[st] = false ∨ s.linkUp (stationLink st) = false ∨ (s.dialogue st).lastDisplay = some (SD.content st s) →
        (SD.flush s).dialogue st = s.dialogue st
          ∧ ((SD.flush s).link (stationLink st)).out = (s.link (stationLink st)).out))
  ∧ (∀ (s : Machine.State) (st : Station) (q : Byte) (n : Fin 10) (c : Instr), c ∈ keyCommands st q n →
      LK.delivers (stationLink st) s = true → (s.link (stationLink st)).lastKey ≠ some q → composes c st s)
  ∧ (∀ (s : Machine.State) (st : Station) (raw : BitVec 24) (q : Byte), LK.delivers (stationLink st) s = true →
      (s.channel st).state ≠ .none → (s.channel st).settings.isSome = true → composes (.sample st raw q) st s)
  ∧ (∀ (s : Machine.State) (st : Station), s.running = true →
      composes (.hello (stationLink st) 1) st s
      ∧ ((s.link (stationLink st)).silence.isSome = true → (s.link (stationLink st)).state = .up →
        composes (.silenceTimerExpiry (stationLink st)) st s)
      ∧ ((s.dialogue st).relookup = true → composes (.reLookup st) st s))
  ∧ (∀ (s : Machine.State) (st : Station) (i : SlotNo) (o : Machine.Order) (c : Fin 32), s.running = true → s.order i = some o →
      o.clerk = some c → (s.clerk c).station = some st →
      (∀ r, s.callRecord i = some r → r.timer.isSome = true → s.tu.settings.recallLimit < o.callCount →
        composes (.callTimerExpiry i) st s)
      ∧ ((∀ k, k < i → s.order k = none) → s.dt.day = .forced → s.dt.close.any (fun j => j.forcing == .active) = true →
        JW.hasRoom 5 s = true → composes .forcedVoid st s))
  ∧ (∀ (s : Machine.State) (st : Station) (j : CloseJob), s.running = true → s.dt.day = .waiting → s.dt.close = some j →
      j.deadline.isSome = true → s.tu.line = [] → OT.inUse s = [] → composes .deadlineExpiry st s)
  ∧ (∀ (s : Machine.State) (st : Station) (j : PriceJob), s.running = true → s.pu.job = some j → j.type = .check → s.pu.fault = false →
      (PU.validate s.mem (PU.base s.pu j.bank) j.count j.crc).isSome = true → composes .checkCompletion st s)
  ∧ ∀ (ln : Lane) (s t : Machine.State) (st : Station), LU.placed ln s = true →
      (∀ c : Fin 32, LU.takes ln (fun k => k == 17) s = true → LU.param ln 1 s = c.val + 1 → (s.clerk c).station = some st →
        exec .clerkOff s = .next t → shows st t)
      ∧ (LU.takes ln (fun k => k == 8) s = true → LU.param ln 1 s = st.val → s.service = true →
        exec .reloadStation s = .next t → shows st t)
      ∧ (LU.takes ln (fun k => k == 9) s = true → LU.param ln 1 s = st.val →
        LU.param ln 2 s ≤ 3 → exec .stationMode s = .next t → shows st t)

/-- R170: JW writes one record: 64 bytes at base + 64 × (written mod capacity), numbered with the sequence number and stamped with the clock; sequence
(4,294,967,295 followed by 1) and written advance, the `written` word follows, JOURNAL is set, and JOURNAL_HIGH when the free room
after it is at most `high_mark`. No other byte and no other state changes.
R169 and R171: what becomes of an offer when the counts are consistent and nothing is held: a class C record is written with one free record and held
without; a class I record is written with five free and dropped with fewer; with fewer free records than n + 4 a class S group finds no room.
R169: inconsistent counts, whatever is held: the journal fault bit is set, and FAULT when the bit was clear; there is no room for any class, a class C
record is held and a class I record dropped. A room check that finds the counts consistent clears the bit.
R171: held records are written from the oldest, as many as are free, and an offered class C record joins the hold behind those that remain. -/
def Obligations.JournalWritesByClass : Prop :=
  (∀ (s : Machine.State) (r : RecordBody), JW.hasRoom 1 s = true →
      JW.write r s = { JW.counted s with mem := (JW.write r s).mem }
        ∧ (JW.write r s).mem.bytes (s.jw.base + 64 * (s.jw.written.toNat % s.jw.capacity)) 64 = r.encode s.jw.seq s.dt.clock
        ∧ (JW.write r s).mem.num 72 4 = (s.jw.written + 1).toNat
        ∧ SameBytes (JW.bytes s) s (JW.write r s))
  ∧ (∀ (s : Machine.State) (r : RecordBody) (n : Nat), s.jw.hold = [] → s.jw.fault = false → JW.consistent s = true →
      JW.offerC r s = (if 1 ≤ JW.free s then JW.write r s else { s with jw := { s.jw with hold := [r] } })
        ∧ JW.offerI r s = (if 5 ≤ JW.free s then JW.write r s else s)
        ∧ JW.ask s = s ∧ (JW.roomFor n s = true ↔ n + 4 ≤ s.jw.capacity - JW.used s))
  ∧ (∀ (s : Machine.State) (r : RecordBody) (n : Nat), JW.consistent s = false →
      let u := if s.jw.fault then s else { s with jw := { s.jw with fault := true }, notice := s.notice ||| 0x80#8 }
      JW.ask s = u ∧ JW.roomFor n u = false ∧ JW.offerI r s = u
        ∧ JW.offerC r s = { u with jw := { u.jw with hold := s.jw.hold ++ [r] } })
  ∧ (∀ s : Machine.State, JW.consistent s = true → s.jw.hold = [] → JW.ask s = { s with jw := { s.jw with fault := false } })
  ∧ (∀ s : Machine.State, JW.hasRoom 0 { s with jw := { s.jw with hold := [] } } = true →
      JW.Wrote (s.jw.hold.take (JW.free s)) { s with jw := { s.jw with hold := s.jw.hold.drop (JW.free s) } } (JW.flush s))
  ∧ (∀ (s : Machine.State) (r : RecordBody), JW.consistent s = true → s.jw.fault = false → s.jw.hold ≠ [] → JW.free s = 0 →
      JW.offerC r s = { s with jw := { s.jw with hold := s.jw.hold ++ [r] } } ∧ JW.offerI r s = s)

/-! ### Keys -/

/-- R26 and R180: a key with a new sequence on a link that is UP is taken: its sequence is held and echoed by the station's last display, whatever the key does.
A key with the last sequence only restarts the silence timer. A DISABLED station refuses every key with NOT ALLOWED and changes nothing
else. -/
def Obligations.KeysAreTakenOnceAndEchoed : Prop :=
  ∀ (s : Machine.State) (st : Station) (q : Byte) (n : Fin 10) (c : Instr), c ∈ keyCommands st q n → LK.delivers (stationLink st) s = true →
    ((s.link (stationLink st)).lastKey ≠ some q →
      ∃ t, exec c s = .next t ∧ (t.link (stationLink st)).lastKey = some q
        ∧ ∃ d, (t.dialogue st).lastDisplay = some d ∧ d.echo = some q)
    ∧ ((s.link (stationLink st)).lastKey = some q →
      ∃ t, exec c s = .next t ∧ OnlyDisplays (LK.goodFrame (stationLink st) s) t)
    ∧ ((s.link (stationLink st)).lastKey ≠ some q → (s.channel st).enabled = false →
      ∃ t, exec c s = .next t
        ∧ OnlyDisplays ((SD.keyed st q s).modDialogue st (fun d => { d with transient := some .notAllowed })) t)

/-- R32, its four cases in order.
R28 and R31: a digit joins a buffer of fewer than six and is ignored at six; REPEAT reverses the repeat flag with a PLU selected at a station that allows it
and is refused with NOT ALLOWED otherwise. -/
def Obligations.EntryKeysFollowTheirCases : Prop :=
  (∀ (s : Machine.State) (st : Station) (q : Byte), SD.hears st q s = true →
      let d := s.dialogue st
      let k := SD.keyed st q s
      let gives (u : Machine.State) : Prop := ∃ t, exec (.keyClear st q) s = .next t ∧ OnlyDisplays u t
      (d.noShow = true → gives (k.modDialogue st (fun d => { d with noShow := false, buffer := [] })))
      ∧ (d.noShow = false → (d.buffer ≠ [] ∨ d.pendingAction ≠ .none ∨ d.mode ≠ .normal) →
        gives (k.modDialogue st (fun d => { d with
          buffer := [], pendingAction := .none, pendingBudget := 0, pendingDest := none, mode := .normal })))
      ∧ (d.noShow = false → d.buffer = [] → d.pendingAction = .none → d.mode = .normal →
        (d.selection.isSome = true →
          gives ((k.setChannel st (WE.clearPreset (s.channel st))).modDialogue st
            (fun d => { d with selection := none, repeatOn := false })))
        ∧ (d.selection = none → gives k)))
  ∧ (∀ (s : Machine.State) (st : Station) (q : Byte) (n : Fin 10), SD.hears st q s = true →
      (∃ t, exec (.keyDigit st q n) s = .next t
        ∧ OnlyDisplays ((SD.keyed st q s).modDialogue st (fun d => { d with
            buffer := if d.buffer.length < 6 then d.buffer ++ [n] else d.buffer })) t)
      ∧ (∀ c, (s.channel st).settings = some c →
        ∃ t, exec (.keyRepeat st q) s = .next t
          ∧ OnlyDisplays ((SD.keyed st q s).modDialogue st (fun d =>
              if d.selection.isSome = true ∧ c.repeatAllowed = true then { d with repeatOn := !d.repeatOn }
              else { d with transient := some .notAllowed })) t))

/-- R30 and R22: a PLU key empties the buffer. With PRICE_FAULT set it is refused with PRICE FAULT, with an empty buffer or an absent PLU with NO PLU, and nothing
else changes. A PLU found in the active bank is selected: the repeat flag follows the record and the station, a pending PRINT is
cancelled, RUN is left, and the channel takes the preset tare, TARE LIMIT showing when the preset exceeds the limit. R52: a record that the lookup finds
invalid sets PRICE_FAULT, which takes every station out of RUN mode (R42), and refuses the key with PRICE FAULT.
(That the report of a preset tare taken in RUN mode starts no automatic commit is the model's choice, log 37.) -/
def Obligations.PluKeySelects : Prop :=
  ∀ (s : Machine.State) (st : Station) (q : Byte) (c : Settings), SD.hears st q s = true →
    (s.channel st).settings = some c →
    let k := (SD.keyed st q s).modDialogue st (fun d => { d with buffer := [] })
    let gives (u : Machine.State) : Prop := ∃ t, exec (.keyPlu st q) s = .next t ∧ OnlyDisplays u t
    let refused (m : Message) := k.modDialogue st (fun d => { d with transient := some m })
    (s.pu.fault = true → gives (refused .priceFault))
    ∧ (s.pu.fault = false → (s.dialogue st).buffer = [] → gives (refused .noPlu))
    ∧ (∀ n, s.pu.fault = false → bufferValue (s.dialogue st).buffer = some n → PU.lookup s.mem s.pu n = .absent →
      gives (refused .noPlu))
    ∧ (∀ n, s.pu.fault = false → bufferValue (s.dialogue st).buffer = some n → PU.lookup s.mem s.pu n = .invalid →
      gives ((priceFaulted k).modDialogue st (fun d => { d with transient := some .priceFault })))
    ∧ ∀ n r, s.pu.fault = false → bufferValue (s.dialogue st).buffer = some n → PU.lookup s.mem s.pu n = .found r →
      let preset := WE.preset r (s.channel st)
      gives ((k.setChannel st preset.1).modDialogue st (fun d =>
        let d1 := { d with
          selection := some r, repeatOn := r.repeatDefault && c.repeatAllowed, mode := .normal
          transient := if preset.2 then some .tareLimit else none }
        if d.pendingAction = .print then { d1 with pendingAction := .none, pendingBudget := 0, pendingDest := none } else d1))

/-- R17, R18 and R29: ZERO is refused with PENDING while an action is pending, with MOTION, OVER or UNDER in those states, with TARE SET under a tare, ZERO
RANGE outside the range and NOT ALLOWED in NONE; in STABLE without a tare it makes the zero offset average − cal_zero and the gross, the net and
the shown weight 0 with ZERO lit. In ZEROING it is refused with MOTION while the counter is above 0; else it retries the initial zero, which
zeroes the channel or leaves it in ZEROING with NO ZERO.
R19, R20 and R29: TARE is refused with DAY CLOSED, with PENDING under a pending PRINT, with NO ZERO, OVER, UNDER and NOT ALLOWED in ZEROING, OVER, UNDER and
NONE. In MOTION it becomes pending with the budget print_wait, and a second one changes nothing. In STABLE a tare is cleared in the zero band; with
a gross of at least half a division the quantized gross becomes a KEYED tare, or is refused with TARE LIMIT; without a tare in the zero band it
changes nothing; at minus half a division or below it is refused with NOT ALLOWED. -/
def Obligations.ZeroAndTareFollowTheirTables : Prop :=
  ∀ (s : Machine.State) (st : Station) (q : Byte) (c : Settings), SD.hears st q s = true →
    (s.channel st).settings = some c → (s.dialogue st).mode = .normal →
    let ch := s.channel st
    let k := SD.keyed st q s
    let zero (u : Machine.State) : Prop := ∃ t, exec (.keyZero st q) s = .next t ∧ OnlyDisplays u t
    let tare (u : Machine.State) : Prop := ∃ t, exec (.keyTare st q) s = .next t ∧ OnlyDisplays u t
    let refused (m : Message) := k.modDialogue st (fun d => { d with transient := some m })
    let changed (ch' : Channel) (failed : Bool) := (k.setChannel st ch').modDialogue st (fun d => { d with zeroFailure := failed })
    let offset := ch.average - c.cal.calZero
    let inRange := decide (10 * |roundDiv (offset * c.cal.spanNum) c.cal.spanDen| ≤ (c.cal.capacity : Int))
    let keyed := roundDiv ch.gross c.cal.d1 * c.cal.d1
    let limit := if c.cal.range1Max ≠ 0 then c.cal.range1Max else c.cal.capacity
    let retared (kind : TareKind) (x : Int) : Channel :=
      let net := ch.gross - x
      let one := decide (c.cal.range1Max = 0 ∨ net ≤ c.cal.range1Max ∨ net < 0)
      let d := if one then c.cal.d1 else c.cal.d2
      { ch with
        tareKind := kind, tare := x, net := net, range := some (if one then .one else .two)
        shown := some (roundDiv net d * d), netLit := kind != .none
        zeroLit := decide (4 * |ch.gross| ≤ (c.cal.d1 : Int)) }
    ((s.dialogue st).pendingAction ≠ .none → zero (refused .pending))
    ∧ ((s.dialogue st).pendingAction = .none →
      (ch.state = .motion → zero (refused .motion)) ∧ (ch.state = .over → zero (refused .over))
        ∧ (ch.state = .under → zero (refused .under)) ∧ (ch.state = .none → zero (refused .notAllowed))
        ∧ (ch.state = .stable → ch.tareKind ≠ .none → zero (refused .tareSet))
        ∧ (ch.state = .stable → ch.tareKind = .none →
            ¬ |(offset - ch.initialOffset) * c.cal.spanNum| * 25 ≤ (c.cal.capacity : Int) * c.cal.spanDen →
            zero (refused .zeroRange))
        ∧ (ch.state = .stable → ch.tareKind = .none → ch.tare = 0 → ch.stable = 0 → 0 < c.cal.spanDen → 0 < c.cal.d1 →
            |(offset - ch.initialOffset) * c.cal.spanNum| * 25 ≤ (c.cal.capacity : Int) * c.cal.spanDen →
            zero (changed { ch with
                zeroOffset := offset, gross := 0, net := 0, shown := some 0, range := some .one, zeroLit := true
                netLit := false } false))
        ∧ (ch.state = .zeroing →
          (0 < ch.stable → zero (refused .motion))
          ∧ (ch.stable = 0 → inRange = true → zero (changed (zeroed c ch) false))
          ∧ (ch.stable = 0 → inRange = false → zero (changed { ch with zeroTried := true } true))))
    ∧ (s.dt.day = .closed → tare (refused .dayClosed))
    ∧ (s.dt.day ≠ .closed → (s.dialogue st).pendingAction = .print → tare (refused .pending))
    ∧ (s.dt.day ≠ .closed → (s.dialogue st).pendingAction ≠ .print →
      (ch.state = .zeroing → tare (refused .noZero)) ∧ (ch.state = .none → tare (refused .notAllowed))
        ∧ (ch.state = .over → tare (refused .over)) ∧ (ch.state = .under → tare (refused .under))
        ∧ (ch.state = .motion → (s.dialogue st).pendingAction = .tare → tare k))
    ∧ (s.dt.day ≠ .closed → (s.dialogue st).pendingAction = .none →
      (ch.state = .motion → tare (k.modDialogue st (fun d => { d with pendingAction := .tare, pendingBudget := c.printWait })))
        ∧ (ch.state = .stable → ch.tareKind ≠ .none → 2 * |ch.gross| < (c.cal.d1 : Int) → tare (changed (retared .none 0) false))
        ∧ (ch.state = .stable → (c.cal.d1 : Int) ≤ 2 * ch.gross → (limit : Int) < keyed → tare (refused .tareLimit))
        ∧ (ch.state = .stable → (c.cal.d1 : Int) ≤ 2 * ch.gross → keyed ≤ (limit : Int) →
          tare (changed (retared .keyed keyed) false))
        ∧ (ch.state = .stable → ch.tareKind = .none → 2 * |ch.gross| < (c.cal.d1 : Int) → tare k)
        ∧ (ch.state = .stable → 0 < c.cal.d1 → 2 * ch.gross ≤ -(c.cal.d1 : Int) → tare (refused .notAllowed)))

/-- The state in which an accepted PRINT has stopped the call timer of a CALLED order of the clerk at the station (R33, R113). -/
def callStopped (st : Station) (s : Machine.State) : Machine.State :=
  match OT.orderAt s st with
  | some (i, o) =>
    if o.state = .called then s.setCall i ((s.callRecord i).map (fun c => { c with timer := none })) else s
  | none => s

/-- R33, but for its last row: NO SHOW leaves the buffer; in RUN mode, and with a print pending, PRINT is ignored; the refusals of its table empty the buffer; in
MOTION the print of a WEIGHED PLU becomes pending with the budget print_wait and its destination, and the call timer of the clerk's
CALLED order stops.
(That an ignored PRINT leaves the buffer is the model's choice, log 17.) -/
def Obligations.PrintIsRefusedIgnoredOrPending : Prop :=
  ∀ (s : Machine.State) (st : Station) (q : Byte) (c : Settings), SD.hears st q s = true →
    (s.channel st).settings = some c →
    let d := s.dialogue st
    let k := SD.keyed st q s
    let read := k.modDialogue st (fun d => { d with buffer := [] })
    let gives (u : Machine.State) : Prop := ∃ t, exec (.keyPrint st q) s = .next t ∧ OnlyDisplays u t
    let refused (m : Message) : Prop := gives (read.modDialogue st (fun d => { d with transient := some m }))
    (d.noShow = true → gives (k.modDialogue st (fun d => { d with transient := some .noShow })))
    ∧ (d.noShow = false → (d.mode ≠ .normal ∨ d.pendingAction = .print) → gives k)
    ∧ (d.noShow = false → d.mode = .normal → d.pendingAction = .tare → refused .pending)
    ∧ (d.noShow = false → d.mode = .normal → d.pendingAction = .none →
      (d.selection = none → refused .noPlu)
      ∧ ∀ r, d.selection = some r →
        (s.dt.day = .closed → refused .dayClosed) ∧ (s.dt.day = .forced → refused .closing)
        ∧ (s.dt.day = .opened ∨ s.dt.day = .waiting →
          (s.pu.fault = true → refused .priceFault)
          ∧ (s.pu.fault = false → OT.orderAt s st = none → c.looseAllowed = false → refused .notAllowed)
          ∧ (s.pu.fault = false → (OT.orderAt s st ≠ none ∨ c.looseAllowed = true) → r.kind = .weighed →
            ((s.channel st).state = .zeroing → refused .noZero) ∧ ((s.channel st).state = .over → refused .over)
              ∧ ((s.channel st).state = .under → refused .under)
              ∧ ((s.channel st).state = .motion →
                gives ((callStopped st read).modDialogue st (fun d => { d with
                  pendingAction := .print, pendingBudget := c.printWait
                  pendingDest := some (match OT.orderAt s st with
                    | some (i, _) => .slot i
                    | none => .loose) }))))))

/-- R36 and R37: a PRINT that is accepted and commits at once. Each check found good, the item joins the clerk's order (a CALLED order becomes OPEN, its call
record gone), or, without an order, the journal and the accumulators; its label, composed with the next serial, joins the chosen queue and is
counted; the PLU stays selected under the repeat flag and is deselected otherwise. A refusal changes the buffer, the call timer and the message
alone: of the lookup with NO PLU, of pricing with its message, of the place with ORDER FULL, PRICE LIMIT or JOURNAL FULL, of the layout with NOT
ALLOWED and of the printers with NO PRINTER. R52: a record found invalid sets PRICE_FAULT as well, with the message PRICE FAULT. -/
def Obligations.PrintCommitsAnItem : Prop :=
  ∀ (s : Machine.State) (st : Station) (q : Byte) (c : Settings) (sel : PluRecord), SD.hears st q s = true →
    (s.channel st).settings = some c → (s.dialogue st).noShow = false → (s.dialogue st).mode = .normal →
    (s.dialogue st).pendingAction = .none → (s.dialogue st).selection = some sel →
    (s.dt.day = .opened ∨ s.dt.day = .waiting) → s.pu.fault = false →
    (sel.kind = .weighed → (s.channel st).state = .stable) → (OT.orderAt s st ≠ none ∨ c.looseAllowed = true) →
    let dest := OT.orderAt s st
    let read := (callStopped st (SD.keyed st q s)).modDialogue st (fun d => { d with buffer := [] })
    let refused (m : Message) : Prop :=
      ∃ t, exec (.keyPrint st q) s = .next t ∧ OnlyDisplays (read.modDialogue st (fun d => { d with transient := some m })) t
    (PU.lookup s.mem s.pu sel.plu = .absent → refused .noPlu)
    ∧ (PU.lookup s.mem s.pu sel.plu = .invalid →
      ∃ t, exec (.keyPrint st q) s = .next t
        ∧ OnlyDisplays ((priceFaulted read).modDialogue st (fun d => { d with transient := some .priceFault })) t)
    ∧ ∀ r, PU.lookup s.mem s.pu sel.plu = .found r →
      let priced := PU.price s.pu.epoch sel.kind (s.channel st) (bufferValue (s.dialogue st).buffer) r
      (∀ m, priced = .error m → refused m)
      ∧ ∀ pr, priced = .ok pr → (dest = none → JW.hasRoom 0 s = true) →
        match placeRefusal st dest pr s with
        | some m => refused m
        | none => ∃ t, exec (.keyPrint st q) s = .next t ∧ (t.dialogue st).buffer = []
            ∧ itemCommitted st (s.dialogue st).repeatOn dest pr s t

/-- R39 and R40: the RUN key, its cases in order; on entry a shown weight below the minimum arms the station at once.
R40: a station in RUN mode is examined on an arrival's report. DISARMED, it becomes ARMED by a shown weight below the minimum in MOTION or STABLE. ARMED, a
STABLE weight from the minimum on is committed as a loose item (R36, R37), the PLU staying selected and the station DISARMED; a refused commit leaves
RUN mode with its message. Otherwise the arming stands. -/
def Obligations.RunModeFollowsItsCases : Prop :=
  (∀ (s : Machine.State) (st : Station) (q : Byte) (c : Settings), SD.hears st q s = true →
      (s.channel st).settings = some c →
      let d := s.dialogue st
      let k := SD.keyed st q s
      let gives (u : Machine.State) : Prop := ∃ t, exec (.keyRun st q) s = .next t ∧ OnlyDisplays u t
      let refused (m : Message) : Prop := gives (k.modDialogue st (fun d => { d with transient := some m }))
      (d.noShow = true → refused .noShow)
      ∧ (d.noShow = false → d.mode ≠ .normal → gives (k.modDialogue st (fun d => { d with mode := .normal })))
      ∧ (d.noShow = false → d.mode = .normal →
        (d.pendingAction ≠ .none → refused .pending)
        ∧ (d.pendingAction = .none → s.dt.day = .closed → refused .dayClosed)
        ∧ (d.pendingAction = .none → s.dt.day ≠ .closed →
          (c.runAllowed = false ∨ c.looseAllowed = false ∨ d.selection = none
            ∨ (∃ r, d.selection = some r ∧ r.kind ≠ .weighed) ∨ OT.orderAt s st ≠ none → refused .notAllowed)
          ∧ (∀ r, c.runAllowed = true → c.looseAllowed = true → d.selection = some r → r.kind = .weighed →
            OT.orderAt s st = none →
            gives (k.modDialogue st (fun d => { d with
              mode := if ((s.channel st).state = .motion ∨ (s.channel st).state = .stable)
                  ∧ (∃ w ∈ (s.channel st).shown, w < 20 * (c.cal.d1 : Int)) then .runArmed else .runDisarmed }))))))
  ∧ (∀ (s : Machine.State) (st : Station) (raw : BitVec 24) (q : Byte) (c : Settings) (t : Machine.State),
      LK.delivers (stationLink st) s = true → (s.channel st).state ≠ .none → (s.channel st).settings = some c →
      (s.dialogue st).pendingAction = .none → exec (.sample st raw q) s = .next t →
      let ch' := t.channel st
      let below := decide (∃ w ∈ ch'.shown, w < 20 * (c.cal.d1 : Int))
      let loaded := decide (ch'.state = .stable ∧ ∃ w ∈ ch'.shown, 20 * (c.cal.d1 : Int) ≤ w)
      ((s.dialogue st).mode = .runDisarmed →
        (t.dialogue st).mode = (if (ch'.state = .motion ∨ ch'.state = .stable) ∧ below = true then .runArmed else .runDisarmed)
          ∧ t.jw = s.jw ∧ t.mem = s.mem ∧ t.pq = s.pq)
      ∧ ((s.dialogue st).mode = .runArmed → loaded = false →
        (t.dialogue st).mode = .runArmed ∧ t.jw = s.jw ∧ t.mem = s.mem ∧ t.pq = s.pq)
      ∧ ((s.dialogue st).mode = .runArmed → loaded = true →
        let refused (m : Message) : Prop := (t.dialogue st).mode = .normal ∧ (t.dialogue st).transient = some m
          ∧ (t.dialogue st).selection = (s.dialogue st).selection ∧ t.ot = s.ot ∧ t.jw = s.jw ∧ t.mem = s.mem ∧ t.pq = s.pq
          ∧ t.lc = s.lc ∧ t.dt = s.dt
        (s.dt.day = .closed → refused .dayClosed) ∧ (s.dt.day = .forced → refused .closing)
        ∧ (s.dt.day = .opened ∨ s.dt.day = .waiting →
          (s.pu.fault = true → refused .priceFault)
          ∧ (s.pu.fault = false → c.looseAllowed = false → refused .notAllowed)
          ∧ ∀ sel, s.pu.fault = false → c.looseAllowed = true → (s.dialogue st).selection = some sel →
            (PU.lookup s.mem s.pu sel.plu = .absent → refused .noPlu)
            ∧ (PU.lookup s.mem s.pu sel.plu = .invalid → (t.dialogue st).mode = .normal
              ∧ (t.dialogue st).transient = some .priceFault ∧ t.pu = { s.pu with fault := true } ∧ t.flag .price = true ∧ t.jw = s.jw)
            ∧ ∀ r, PU.lookup s.mem s.pu sel.plu = .found r →
              let priced := PU.price s.pu.epoch sel.kind ch' none r
              (∀ m, priced = .error m → refused m)
              ∧ ∀ pr, priced = .ok pr → JW.hasRoom 0 s = true →
                match placeRefusal st none pr s with
                | some m => refused m
                | none => itemCommitted st true none pr s t ∧ (t.dialogue st).mode = .runDisarmed)))

/-- R120 to R122: the CLERK key empties the buffer. Digits 0 or above 32 are refused with NOT ALLOWED, the clerk already there has no effect, and any other is
signed on: the clerk there loses the station, the clerk leaves another one, and both stations are told. With an empty buffer the clerk
there signs off, an OPEN order being parked; with no clerk there the key is refused with NO CLERK. R114: the ticket of a CALLED order goes back to
the top of the line, its skips unchanged, or lapses with cause CLOSE in the forced stage and LINE_FULL with 64 entries; the slot is free. The slot
freed last completes a close (R142).
(That it completes after the station has been told of the sign-off is the model's choice, log 18.) -/
def Obligations.ClerkKeySignsOnAndOff : Prop :=
  ∀ (s : Machine.State) (st : Station) (q : Byte), SD.hears st q s = true →
    let k := (SD.keyed st q s).modDialogue st (fun d => { d with buffer := [] })
    let gives (u : Machine.State) : Prop := ∃ t, exec (.keyClerk st q) s = .next t ∧ OnlyDisplays u t
    let refused (m : Message) : Prop := gives (k.modDialogue st (fun d => { d with transient := some m }))
    let value := bufferValue (s.dialogue st).buffer
    (∀ n, value = some n → n = 0 ∨ 32 < n → refused .notAllowed)
    ∧ (∀ c : Fin 32, value = some (c.val + 1) →
      ((s.clerk c).station = some st → gives k)
      ∧ ((s.clerk c).station ≠ some st →
        let displaced := match OT.clerkAt s st with
          | some m => k.setClerk m { s.clerk m with station := none }
          | none => k
        gives (toldClerk (s.clerk c).station (toldClerk (some st)
          (displaced.setClerk c { s.clerk c with station := some st })))))
    ∧ (value = none →
      (OT.clerkAt s st = none → refused .noClerk)
      ∧ ∀ c, OT.clerkAt s st = some c →
        ((s.clerk c).slot = none → gives (toldClerk (some st) (k.setClerk c { station := none, slot := none })))
        ∧ (∀ i o, (s.clerk c).slot = some i → s.order i = some o → o.state = .opened →
          gives (toldClerk (some st) ((k.setOrder i (some { o with state := .parked, clerk := none })).setClerk c
            { station := none, slot := none })))
        ∧ ∀ i o r, (s.clerk c).slot = some i → s.order i = some o → o.state = .called → o.clerk = some c →
          s.callRecord i = some r →
          let off (u : Machine.State) : Machine.State :=
            toldClerk (some st) ((freedSlot i (some c) u).setClerk c { station := none, slot := none })
          (returnCause s = none → gives (off { k with tu := { k.tu with line := r.entry :: k.tu.line } }))
          ∧ ∀ cause, returnCause s = some cause → JW.hasRoom 5 s = true →
            let v := off (lapsedTicket r.entry k)
            (goesOn i s →
              ∃ t, exec (.keyClerk st q) s = .next t ∧ OnlyDisplays { v with mem := t.mem } t
                ∧ SameBytes (JW.bytes s) s t ∧ JW.Holds (.ticketLapsed r.entry cause) s.dt.clock s t)
            ∧ ∀ j, endsTheClose i j s →
              ∃ t, exec (.keyClerk st q) s = .next t ∧ OnlyDisplays { closedDay v with mem := t.mem } t
                ∧ SameBytes (fun x => JW.bytes s x ∨ closeBytes j v x) s t
                ∧ JW.Holds (.ticketLapsed r.entry cause) s.dt.clock s t ∧ closeWritten j v t)

/-- R107, R108 and R125: NEXT, its pre-checks and refusals in order; accepted, the top of the line leaves it for a CALLED order in the lowest free slot,
bound to the clerk at the station, with a call record that holds the entry, and is called: CALL and LIST to L11, the head of the serving
list, the call count 1, the timer started. -/
def Obligations.NextCallsTheTopOfTheLine : Prop :=
  ∀ (s : Machine.State) (st : Station) (q : Byte), SD.hears st q s = true →
    let d := s.dialogue st
    let k := SD.keyed st q s
    let gives (u : Machine.State) : Prop := ∃ t, exec (.keyNext st q) s = .next t ∧ OnlyDisplays u t
    let refused (m : Message) : Prop := gives (k.modDialogue st (fun d => { d with transient := some m }))
    (d.pendingAction ≠ .none → refused .pending)
    ∧ (d.pendingAction = .none →
      (OT.clerkAt s st = none → refused .noClerk)
      ∧ ∀ c, OT.clerkAt s st = some c →
        (d.mode ≠ .normal → refused .notAllowed)
        ∧ (d.mode = .normal →
          (s.dt.day = .closed → refused .dayClosed)
          ∧ (s.dt.day ≠ .closed → OT.orderAt s st ≠ none → refused .notAllowed)
          ∧ (s.dt.day = .forced → OT.orderAt s st = none → refused .closing)
          ∧ ((s.dt.day = .opened ∨ s.dt.day = .waiting) → OT.orderAt s st = none →
            (s.tu.line = [] → refused .lineEmpty)
            ∧ (s.tu.line ≠ [] → (∀ i, (s.order i).isSome = true) → refused .ordersFull)
            ∧ ∀ e rest i, s.tu.line = e :: rest → s.order i = none → (∀ j, j < i → (s.order j).isSome = true) →
              let n := OT.number s
              let level := s.tu.settings.chimeLevel
              let serving := (e.ticket :: s.tu.serving.filter (fun x => x != e.ticket)).take 4
              let called := LK.hand displayLink (.list serving)
                (LK.hand displayLink (.call e.ticket s.tu.settings.chimeTone level s.tu.settings.envelope) k)
              gives ({ called with
                tu := { s.tu with
                  line := rest, serving := serving
                  calls := s.tu.calls.set i.val
                    (some { timer := some s.tu.settings.callTimeout, level := level, entry := e }) i.isLt }
                ot := { s.ot with
                  next := if n = 9999 then 1 else n + 1
                  clerks := s.ot.clerks.set c.val { s.clerk c with slot := some i } c.isLt
                  slots := s.ot.slots.set i.val (some {
                    number := n, ticket := e.ticket, source := .line, state := .called, clerk := some c, items := []
                    total := 0, opened := s.dt.clock.time, callCount := 1, lastStation := none }) i.isLt } }))))

/-- R128 to R130: ORDER takes over the PARKED order that holds the ticket keyed; PARK puts down an OPEN order with items; VOID voids the last item not yet
voided and takes its amount off the total. Each is refused as its table gives; no journal record is written and no accumulator changes. -/
def Obligations.OrderParkAndVoidChangeTheOrder : Prop :=
  ∀ (s : Machine.State) (st : Station) (q : Byte) (c : Fin 32), SD.hears st q s = true → OT.clerkAt s st = some c →
    (s.dialogue st).pendingAction = .none → (s.dialogue st).mode = .normal →
    let k := SD.keyed st q s
    let read := k.modDialogue st (fun d => { d with buffer := [] })
    let gives (c : Instr) (u : Machine.State) : Prop := ∃ t, exec c s = .next t ∧ OnlyDisplays u t
    let say (m : Message) (u : Machine.State) := u.modDialogue st (fun d => { d with transient := some m })
    let value := bufferValue (s.dialogue st).buffer
    (OT.orderAt s st = none →
      gives (.keyPark st q) (say .noOrder k) ∧ gives (.keyVoid st q) (say .noOrder k)
      ∧ ((value = none ∨ value = some 0 ∨ ∃ n, value = some n ∧ 99 < n) → gives (.keyOrder st q) (say .noOrder read))
      ∧ ∀ n, value = some n → 1 ≤ n → n ≤ 99 →
        ((∀ i o, s.order i = some o → o.ticket ≠ n) → gives (.keyOrder st q) (say .noOrder read))
        ∧ ∀ i o, s.order i = some o → o.ticket = n → (∀ i' o', s.order i' = some o' → o'.ticket = n → i' = i) →
          (o.state ≠ .parked → gives (.keyOrder st q) (say .orderBusy read))
          ∧ (o.state = .parked →
            gives (.keyOrder st q) ((read.setClerk c { s.clerk c with slot := some i }).setOrder i
              (some { o with state := .opened, clerk := some c }))))
    ∧ ∀ i o, OT.orderAt s st = some (i, o) →
      gives (.keyOrder st q) (say .notAllowed read)
      ∧ (o.state = .called → gives (.keyPark st q) (say .notAllowed k))
      ∧ (o.state ≠ .called → o.items = [] → gives (.keyPark st q) (say .noItems k))
      ∧ (o.state ≠ .called → o.items ≠ [] → o.clerk = some c →
        gives (.keyPark st q) ((k.setClerk c { s.clerk c with slot := none }).setOrder i
          (some { o with state := .parked, clerk := none })))
      ∧ ((∀ x ∈ o.items, x.voided = true) → gives (.keyVoid st q) (say .noItems k))
      ∧ ∀ a x b, o.items = a ++ x :: b → x.voided = false → (∀ y ∈ b, y.voided = true) →
        gives (.keyVoid st q) (k.setOrder i (some { o with
          items := a ++ { x with voided := true } :: b, total := o.total - x.amount }))

/-- The records of a finished order (R132): one ITEM per item not voided, then ORDER_END. -/
def orderRecords (o : Machine.Order) (st : Station) (serial : Nat) : List RecordBody :=
  let live := o.items.filter (fun x => !x.voided)
  live.map (fun x => .item o.number o.ticket x)
    ++ [.orderEnd o.number o.ticket o.source o.clerk st live.length (o.items.length - live.length) o.total o.opened serial]

/-- The state in which TOTAL has finished the order `o` of slot `i` and clerk `c` at a station, its label of layout `layout` going to printer `p` (R132): the
records counted, the accumulators of R149 to R151, the next serial, the label at the bottom of the queue and sent by a READY printer, the
ticket free, the slot free, the clerk without an order. -/
def finished (st : Station) (i : SlotNo) (o : Machine.Order) (c : Fin 32) (layout : Layout) (p : PrinterNo) (s : Machine.State) : Machine.State :=
  let live := o.items.filter (fun x => !x.voided)
  let serial := LC.serial s
  let s1 := (orderRecords o st serial).foldl (fun u _ => JW.counted u) s
  let acc := Accumulators.addOrder (some c) (o.items.length - live.length) (live.foldl (fun a x => a.addItem false x) s.dt.acc)
  let s2 := { s1 with
    lc := { s.lc with nextSerial := if serial = 999999 then 1 else serial + 1 }
    dt := { s.dt with acc := { acc with grand := { acc.grand with labelsIssued := min (acc.grand.labelsIssued + 1) 4294967295 } } }
    tu := TU.mark o.ticket false s.tu }
  let q := s.printer p
  let job : LabelJob := { serial := serial, kind := .total, reprintCount := 0, station := st, orderNumber := some o.number
                          text := composeLabel layout (totalValues o st s.dt.clock.date serial) }
  ((sending p { q with queue := q.queue ++ [job], topSent := if q.queue = [] then false else q.topSent } s2).setClerk c
    { s.clerk c with slot := none }).setOrder i none

/-- R131 to R133: TOTAL, its refusals in order. An order whose items are all voided is voided with cause TOTAL, its station not told. Otherwise, with room
for its records, a layout and a printer, the order is finished: one ITEM record per item not voided and an ORDER_END, the amounts in the
accumulators, the label placed and counted, the ticket free, the slot free, the clerk at the station without an order. While a ticket waits
or another order remains a close goes on; the order that frees the last slot completes it (R142, R145).
(That it completes after the other changes of the key is the model's choice, log 18.) -/
def Obligations.TotalFinishesTheOrder : Prop :=
  ∀ (s : Machine.State) (st : Station) (q : Byte) (c : Fin 32), SD.hears st q s = true → OT.clerkAt s st = some c →
    (s.dialogue st).pendingAction = .none →
    let k := SD.keyed st q s
    let refused (m : Message) : Prop :=
      ∃ t, exec (.keyTotal st q) s = .next t ∧ OnlyDisplays (k.modDialogue st (fun d => { d with transient := some m })) t
    (OT.orderAt s st = none → refused .noOrder)
    ∧ ∀ i o, OT.orderAt s st = some (i, o) →
      (s.dt.day = .forced → refused .closing)
      ∧ (s.dt.day ≠ .forced → o.state = .called → refused .notAllowed)
      ∧ (s.dt.day ≠ .forced → o.state ≠ .called →
        let live := o.items.filter (fun x => !x.voided)
        (live = [] →
          (JW.lacksRoom 5 s = true → refused .journalFull)
          ∧ (JW.hasRoom 5 s = true →
            let v := voided i o k
            let held (t : Machine.State) : Prop :=
              JW.Holds (.orderVoid o.number o.ticket o.source o.clerk o.state o.items.length .total o.total) s.dt.clock s t
            (goesOn i s →
              ∃ t, exec (.keyTotal st q) s = .next t ∧ OnlyDisplays { v with mem := t.mem } t ∧ SameBytes (JW.bytes s) s t ∧ held t)
            ∧ ∀ j, endsTheClose i j s →
              ∃ t, exec (.keyTotal st q) s = .next t ∧ OnlyDisplays { closedDay v with mem := t.mem } t
                ∧ SameBytes (fun x => JW.bytes s x ∨ closeBytes j v x) s t ∧ held t ∧ closeWritten j v t))
        ∧ (live ≠ [] →
          (JW.lacksRoom (live.length + 5) s = true → refused .journalFull)
          ∧ (JW.hasRoom (live.length + 5) s = true →
            (LC.totalLayout s = none → refused .notAllowed)
            ∧ (LC.totalLayout s ≠ none → PQ.choose s st = none → refused .noPrinter)
            ∧ ∀ layout p, LC.totalLayout s = some layout → PQ.choose s st = some p → o.clerk = some c →
              let f := finished st i o c layout p k
              let records := orderRecords o st (LC.serial s)
              let journal (x : Nat) : Prop := within s.jw.base (64 * s.jw.capacity) x ∨ within offsetWritten 4 x
              (goesOn i s →
                ∃ t, exec (.keyTotal st q) s = .next t
                  ∧ OnlyDisplays { f with mem := t.mem } t ∧ SameBytes journal s t ∧ JW.HoldsAll records s.dt.clock s t
                  ∧ t.order i = none ∧ t.clerk c = { s.clerk c with slot := none } ∧ TU.used t.tu o.ticket = false
                  ∧ t.jw.written = s.jw.written + BitVec.ofNat 32 (live.length + 1)
                  ∧ t.dt.acc.grand.amount = s.dt.acc.grand.amount + (live.map Item.amount).sum
                  ∧ t.dt.acc.grand.ordersFinished = min (s.dt.acc.grand.ordersFinished + 1) 4294967295
                  ∧ t.dt.acc.grand.labelsIssued = min (s.dt.acc.grand.labelsIssued + 1) 4294967295
                  ∧ (∃ job : LabelJob, (t.printer p).queue = (s.printer p).queue ++ [job] ∧ job.kind = .total
                      ∧ job.serial = LC.serial s ∧ job.orderNumber = some o.number)
                  ∧ (∀ i', i' ≠ i → t.order i' = s.order i') ∧ (t.dialogue st).transient = none)
              ∧ ∀ j, endsTheClose i j s →
                ∃ t, exec (.keyTotal st q) s = .next t ∧ OnlyDisplays { closedDay f with mem := t.mem } t
                  ∧ SameBytes (fun x => journal x ∨ within j.area 1024 x) s t ∧ JW.HoldsAll records s.dt.clock s t
                  ∧ closeWritten j f t)))
end

