-- ==== Sys2Proof/Laws/State.lean ====
section
/-! SUPPORT. What each named update of the state leaves as it was, field by field, and what reading back a table gives. -/

namespace Sys2Proof.Machine

open Sys2Proof

/-! ### State.setChannel -/

@[simp] theorem State.setChannel_pending (st : Station) (ch : Channel) (s : State) : (State.setChannel st ch s).pending = s.pending := rfl
@[simp] theorem State.setChannel_service (st : Station) (ch : Channel) (s : State) : (State.setChannel st ch s).service = s.service := rfl
@[simp] theorem State.setChannel_resetPin (st : Station) (ch : Channel) (s : State) : (State.setChannel st ch s).resetPin = s.resetPin := rfl
@[simp] theorem State.setChannel_mem (st : Station) (ch : Channel) (s : State) : (State.setChannel st ch s).mem = s.mem := rfl
@[simp] theorem State.setChannel_part (st : Station) (ch : Channel) (s : State) : (State.setChannel st ch s).part = s.part := rfl
@[simp] theorem State.setChannel_startFault (st : Station) (ch : Channel) (s : State) : (State.setChannel st ch s).startFault = s.startFault := rfl
@[simp] theorem State.setChannel_controlError (st : Station) (ch : Channel) (s : State) : (State.setChannel st ch s).controlError = s.controlError := rfl
@[simp] theorem State.setChannel_notice (st : Station) (ch : Channel) (s : State) : (State.setChannel st ch s).notice = s.notice := rfl
@[simp] theorem State.setChannel_route (st : Station) (ch : Channel) (s : State) : (State.setChannel st ch s).route = s.route := rfl
@[simp] theorem State.setChannel_window (st : Station) (ch : Channel) (s : State) : (State.setChannel st ch s).window = s.window := rfl
@[simp] theorem State.setChannel_lu (st : Station) (ch : Channel) (s : State) : (State.setChannel st ch s).lu = s.lu := rfl
@[simp] theorem State.setChannel_jw (st : Station) (ch : Channel) (s : State) : (State.setChannel st ch s).jw = s.jw := rfl
@[simp] theorem State.setChannel_lk (st : Station) (ch : Channel) (s : State) : (State.setChannel st ch s).lk = s.lk := rfl
@[simp] theorem State.setChannel_sd (st : Station) (ch : Channel) (s : State) : (State.setChannel st ch s).sd = s.sd := rfl
@[simp] theorem State.setChannel_pu (st : Station) (ch : Channel) (s : State) : (State.setChannel st ch s).pu = s.pu := rfl
@[simp] theorem State.setChannel_lc (st : Station) (ch : Channel) (s : State) : (State.setChannel st ch s).lc = s.lc := rfl
@[simp] theorem State.setChannel_pq (st : Station) (ch : Channel) (s : State) : (State.setChannel st ch s).pq = s.pq := rfl
@[simp] theorem State.setChannel_tu (st : Station) (ch : Channel) (s : State) : (State.setChannel st ch s).tu = s.tu := rfl
@[simp] theorem State.setChannel_ot (st : Station) (ch : Channel) (s : State) : (State.setChannel st ch s).ot = s.ot := rfl
@[simp] theorem State.setChannel_dt (st : Station) (ch : Channel) (s : State) : (State.setChannel st ch s).dt = s.dt := rfl
@[simp] theorem State.setChannel_settingsBase (st : Station) (ch : Channel) (s : State) : (State.setChannel st ch s).settingsBase = s.settingsBase := rfl
@[simp] theorem State.setChannel_directory (st : Station) (ch : Channel) (s : State) : (State.setChannel st ch s).directory = s.directory := rfl
@[simp] theorem State.setChannel_told (st : Station) (ch : Channel) (s : State) : (State.setChannel st ch s).told = s.told := rfl
@[simp] theorem State.setChannel_freeIndex (st : Station) (ch : Channel) (s : State) : (State.setChannel st ch s).freeIndex = s.freeIndex := rfl

/-! ### State.modDialogue -/

@[simp] theorem State.modDialogue_pending (st : Station) (f : Dialogue → Dialogue) (s : State) : (State.modDialogue st f s).pending = s.pending := rfl
@[simp] theorem State.modDialogue_service (st : Station) (f : Dialogue → Dialogue) (s : State) : (State.modDialogue st f s).service = s.service := rfl
@[simp] theorem State.modDialogue_resetPin (st : Station) (f : Dialogue → Dialogue) (s : State) : (State.modDialogue st f s).resetPin = s.resetPin := rfl
@[simp] theorem State.modDialogue_mem (st : Station) (f : Dialogue → Dialogue) (s : State) : (State.modDialogue st f s).mem = s.mem := rfl
@[simp] theorem State.modDialogue_part (st : Station) (f : Dialogue → Dialogue) (s : State) : (State.modDialogue st f s).part = s.part := rfl
@[simp] theorem State.modDialogue_startFault (st : Station) (f : Dialogue → Dialogue) (s : State) : (State.modDialogue st f s).startFault = s.startFault := rfl
@[simp] theorem State.modDialogue_controlError (st : Station) (f : Dialogue → Dialogue) (s : State) : (State.modDialogue st f s).controlError = s.controlError := rfl
@[simp] theorem State.modDialogue_notice (st : Station) (f : Dialogue → Dialogue) (s : State) : (State.modDialogue st f s).notice = s.notice := rfl
@[simp] theorem State.modDialogue_route (st : Station) (f : Dialogue → Dialogue) (s : State) : (State.modDialogue st f s).route = s.route := rfl
@[simp] theorem State.modDialogue_window (st : Station) (f : Dialogue → Dialogue) (s : State) : (State.modDialogue st f s).window = s.window := rfl
@[simp] theorem State.modDialogue_lu (st : Station) (f : Dialogue → Dialogue) (s : State) : (State.modDialogue st f s).lu = s.lu := rfl
@[simp] theorem State.modDialogue_jw (st : Station) (f : Dialogue → Dialogue) (s : State) : (State.modDialogue st f s).jw = s.jw := rfl
@[simp] theorem State.modDialogue_lk (st : Station) (f : Dialogue → Dialogue) (s : State) : (State.modDialogue st f s).lk = s.lk := rfl
@[simp] theorem State.modDialogue_we (st : Station) (f : Dialogue → Dialogue) (s : State) : (State.modDialogue st f s).we = s.we := rfl
@[simp] theorem State.modDialogue_pu (st : Station) (f : Dialogue → Dialogue) (s : State) : (State.modDialogue st f s).pu = s.pu := rfl
@[simp] theorem State.modDialogue_lc (st : Station) (f : Dialogue → Dialogue) (s : State) : (State.modDialogue st f s).lc = s.lc := rfl
@[simp] theorem State.modDialogue_pq (st : Station) (f : Dialogue → Dialogue) (s : State) : (State.modDialogue st f s).pq = s.pq := rfl
@[simp] theorem State.modDialogue_tu (st : Station) (f : Dialogue → Dialogue) (s : State) : (State.modDialogue st f s).tu = s.tu := rfl
@[simp] theorem State.modDialogue_ot (st : Station) (f : Dialogue → Dialogue) (s : State) : (State.modDialogue st f s).ot = s.ot := rfl
@[simp] theorem State.modDialogue_dt (st : Station) (f : Dialogue → Dialogue) (s : State) : (State.modDialogue st f s).dt = s.dt := rfl
@[simp] theorem State.modDialogue_settingsBase (st : Station) (f : Dialogue → Dialogue) (s : State) : (State.modDialogue st f s).settingsBase = s.settingsBase := rfl
@[simp] theorem State.modDialogue_directory (st : Station) (f : Dialogue → Dialogue) (s : State) : (State.modDialogue st f s).directory = s.directory := rfl
@[simp] theorem State.modDialogue_told (st : Station) (f : Dialogue → Dialogue) (s : State) : (State.modDialogue st f s).told = s.told := rfl
@[simp] theorem State.modDialogue_freeIndex (st : Station) (f : Dialogue → Dialogue) (s : State) : (State.modDialogue st f s).freeIndex = s.freeIndex := rfl

/-! ### State.modLink -/

@[simp] theorem State.modLink_pending (l : LinkNo) (f : Link → Link) (s : State) : (State.modLink l f s).pending = s.pending := rfl
@[simp] theorem State.modLink_service (l : LinkNo) (f : Link → Link) (s : State) : (State.modLink l f s).service = s.service := rfl
@[simp] theorem State.modLink_resetPin (l : LinkNo) (f : Link → Link) (s : State) : (State.modLink l f s).resetPin = s.resetPin := rfl
@[simp] theorem State.modLink_mem (l : LinkNo) (f : Link → Link) (s : State) : (State.modLink l f s).mem = s.mem := rfl
@[simp] theorem State.modLink_part (l : LinkNo) (f : Link → Link) (s : State) : (State.modLink l f s).part = s.part := rfl
@[simp] theorem State.modLink_startFault (l : LinkNo) (f : Link → Link) (s : State) : (State.modLink l f s).startFault = s.startFault := rfl
@[simp] theorem State.modLink_controlError (l : LinkNo) (f : Link → Link) (s : State) : (State.modLink l f s).controlError = s.controlError := rfl
@[simp] theorem State.modLink_notice (l : LinkNo) (f : Link → Link) (s : State) : (State.modLink l f s).notice = s.notice := rfl
@[simp] theorem State.modLink_route (l : LinkNo) (f : Link → Link) (s : State) : (State.modLink l f s).route = s.route := rfl
@[simp] theorem State.modLink_window (l : LinkNo) (f : Link → Link) (s : State) : (State.modLink l f s).window = s.window := rfl
@[simp] theorem State.modLink_lu (l : LinkNo) (f : Link → Link) (s : State) : (State.modLink l f s).lu = s.lu := rfl
@[simp] theorem State.modLink_jw (l : LinkNo) (f : Link → Link) (s : State) : (State.modLink l f s).jw = s.jw := rfl
@[simp] theorem State.modLink_we (l : LinkNo) (f : Link → Link) (s : State) : (State.modLink l f s).we = s.we := rfl
@[simp] theorem State.modLink_sd (l : LinkNo) (f : Link → Link) (s : State) : (State.modLink l f s).sd = s.sd := rfl
@[simp] theorem State.modLink_pu (l : LinkNo) (f : Link → Link) (s : State) : (State.modLink l f s).pu = s.pu := rfl
@[simp] theorem State.modLink_lc (l : LinkNo) (f : Link → Link) (s : State) : (State.modLink l f s).lc = s.lc := rfl
@[simp] theorem State.modLink_pq (l : LinkNo) (f : Link → Link) (s : State) : (State.modLink l f s).pq = s.pq := rfl
@[simp] theorem State.modLink_tu (l : LinkNo) (f : Link → Link) (s : State) : (State.modLink l f s).tu = s.tu := rfl
@[simp] theorem State.modLink_ot (l : LinkNo) (f : Link → Link) (s : State) : (State.modLink l f s).ot = s.ot := rfl
@[simp] theorem State.modLink_dt (l : LinkNo) (f : Link → Link) (s : State) : (State.modLink l f s).dt = s.dt := rfl
@[simp] theorem State.modLink_settingsBase (l : LinkNo) (f : Link → Link) (s : State) : (State.modLink l f s).settingsBase = s.settingsBase := rfl
@[simp] theorem State.modLink_directory (l : LinkNo) (f : Link → Link) (s : State) : (State.modLink l f s).directory = s.directory := rfl
@[simp] theorem State.modLink_told (l : LinkNo) (f : Link → Link) (s : State) : (State.modLink l f s).told = s.told := rfl
@[simp] theorem State.modLink_freeIndex (l : LinkNo) (f : Link → Link) (s : State) : (State.modLink l f s).freeIndex = s.freeIndex := rfl

/-! ### State.modPrinter -/

@[simp] theorem State.modPrinter_pending (p : PrinterNo) (f : PrintQueue → PrintQueue) (s : State) : (State.modPrinter p f s).pending = s.pending := rfl
@[simp] theorem State.modPrinter_service (p : PrinterNo) (f : PrintQueue → PrintQueue) (s : State) : (State.modPrinter p f s).service = s.service := rfl
@[simp] theorem State.modPrinter_resetPin (p : PrinterNo) (f : PrintQueue → PrintQueue) (s : State) : (State.modPrinter p f s).resetPin = s.resetPin := rfl
@[simp] theorem State.modPrinter_mem (p : PrinterNo) (f : PrintQueue → PrintQueue) (s : State) : (State.modPrinter p f s).mem = s.mem := rfl
@[simp] theorem State.modPrinter_part (p : PrinterNo) (f : PrintQueue → PrintQueue) (s : State) : (State.modPrinter p f s).part = s.part := rfl
@[simp] theorem State.modPrinter_startFault (p : PrinterNo) (f : PrintQueue → PrintQueue) (s : State) : (State.modPrinter p f s).startFault = s.startFault := rfl
@[simp] theorem State.modPrinter_controlError (p : PrinterNo) (f : PrintQueue → PrintQueue) (s : State) : (State.modPrinter p f s).controlError = s.controlError := rfl
@[simp] theorem State.modPrinter_notice (p : PrinterNo) (f : PrintQueue → PrintQueue) (s : State) : (State.modPrinter p f s).notice = s.notice := rfl
@[simp] theorem State.modPrinter_route (p : PrinterNo) (f : PrintQueue → PrintQueue) (s : State) : (State.modPrinter p f s).route = s.route := rfl
@[simp] theorem State.modPrinter_window (p : PrinterNo) (f : PrintQueue → PrintQueue) (s : State) : (State.modPrinter p f s).window = s.window := rfl
@[simp] theorem State.modPrinter_lu (p : PrinterNo) (f : PrintQueue → PrintQueue) (s : State) : (State.modPrinter p f s).lu = s.lu := rfl
@[simp] theorem State.modPrinter_jw (p : PrinterNo) (f : PrintQueue → PrintQueue) (s : State) : (State.modPrinter p f s).jw = s.jw := rfl
@[simp] theorem State.modPrinter_lk (p : PrinterNo) (f : PrintQueue → PrintQueue) (s : State) : (State.modPrinter p f s).lk = s.lk := rfl
@[simp] theorem State.modPrinter_we (p : PrinterNo) (f : PrintQueue → PrintQueue) (s : State) : (State.modPrinter p f s).we = s.we := rfl
@[simp] theorem State.modPrinter_sd (p : PrinterNo) (f : PrintQueue → PrintQueue) (s : State) : (State.modPrinter p f s).sd = s.sd := rfl
@[simp] theorem State.modPrinter_pu (p : PrinterNo) (f : PrintQueue → PrintQueue) (s : State) : (State.modPrinter p f s).pu = s.pu := rfl
@[simp] theorem State.modPrinter_lc (p : PrinterNo) (f : PrintQueue → PrintQueue) (s : State) : (State.modPrinter p f s).lc = s.lc := rfl
@[simp] theorem State.modPrinter_tu (p : PrinterNo) (f : PrintQueue → PrintQueue) (s : State) : (State.modPrinter p f s).tu = s.tu := rfl
@[simp] theorem State.modPrinter_ot (p : PrinterNo) (f : PrintQueue → PrintQueue) (s : State) : (State.modPrinter p f s).ot = s.ot := rfl
@[simp] theorem State.modPrinter_dt (p : PrinterNo) (f : PrintQueue → PrintQueue) (s : State) : (State.modPrinter p f s).dt = s.dt := rfl
@[simp] theorem State.modPrinter_settingsBase (p : PrinterNo) (f : PrintQueue → PrintQueue) (s : State) : (State.modPrinter p f s).settingsBase = s.settingsBase := rfl
@[simp] theorem State.modPrinter_directory (p : PrinterNo) (f : PrintQueue → PrintQueue) (s : State) : (State.modPrinter p f s).directory = s.directory := rfl
@[simp] theorem State.modPrinter_told (p : PrinterNo) (f : PrintQueue → PrintQueue) (s : State) : (State.modPrinter p f s).told = s.told := rfl
@[simp] theorem State.modPrinter_freeIndex (p : PrinterNo) (f : PrintQueue → PrintQueue) (s : State) : (State.modPrinter p f s).freeIndex = s.freeIndex := rfl

/-! ### State.setClerk -/

@[simp] theorem State.setClerk_pending (c : Fin 32) (r : ClerkRecord) (s : State) : (State.setClerk c r s).pending = s.pending := rfl
@[simp] theorem State.setClerk_service (c : Fin 32) (r : ClerkRecord) (s : State) : (State.setClerk c r s).service = s.service := rfl
@[simp] theorem State.setClerk_resetPin (c : Fin 32) (r : ClerkRecord) (s : State) : (State.setClerk c r s).resetPin = s.resetPin := rfl
@[simp] theorem State.setClerk_mem (c : Fin 32) (r : ClerkRecord) (s : State) : (State.setClerk c r s).mem = s.mem := rfl
@[simp] theorem State.setClerk_part (c : Fin 32) (r : ClerkRecord) (s : State) : (State.setClerk c r s).part = s.part := rfl
@[simp] theorem State.setClerk_startFault (c : Fin 32) (r : ClerkRecord) (s : State) : (State.setClerk c r s).startFault = s.startFault := rfl
@[simp] theorem State.setClerk_controlError (c : Fin 32) (r : ClerkRecord) (s : State) : (State.setClerk c r s).controlError = s.controlError := rfl
@[simp] theorem State.setClerk_notice (c : Fin 32) (r : ClerkRecord) (s : State) : (State.setClerk c r s).notice = s.notice := rfl
@[simp] theorem State.setClerk_route (c : Fin 32) (r : ClerkRecord) (s : State) : (State.setClerk c r s).route = s.route := rfl
@[simp] theorem State.setClerk_window (c : Fin 32) (r : ClerkRecord) (s : State) : (State.setClerk c r s).window = s.window := rfl
@[simp] theorem State.setClerk_lu (c : Fin 32) (r : ClerkRecord) (s : State) : (State.setClerk c r s).lu = s.lu := rfl
@[simp] theorem State.setClerk_jw (c : Fin 32) (r : ClerkRecord) (s : State) : (State.setClerk c r s).jw = s.jw := rfl
@[simp] theorem State.setClerk_lk (c : Fin 32) (r : ClerkRecord) (s : State) : (State.setClerk c r s).lk = s.lk := rfl
@[simp] theorem State.setClerk_we (c : Fin 32) (r : ClerkRecord) (s : State) : (State.setClerk c r s).we = s.we := rfl
@[simp] theorem State.setClerk_sd (c : Fin 32) (r : ClerkRecord) (s : State) : (State.setClerk c r s).sd = s.sd := rfl
@[simp] theorem State.setClerk_pu (c : Fin 32) (r : ClerkRecord) (s : State) : (State.setClerk c r s).pu = s.pu := rfl
@[simp] theorem State.setClerk_lc (c : Fin 32) (r : ClerkRecord) (s : State) : (State.setClerk c r s).lc = s.lc := rfl
@[simp] theorem State.setClerk_pq (c : Fin 32) (r : ClerkRecord) (s : State) : (State.setClerk c r s).pq = s.pq := rfl
@[simp] theorem State.setClerk_tu (c : Fin 32) (r : ClerkRecord) (s : State) : (State.setClerk c r s).tu = s.tu := rfl
@[simp] theorem State.setClerk_dt (c : Fin 32) (r : ClerkRecord) (s : State) : (State.setClerk c r s).dt = s.dt := rfl
@[simp] theorem State.setClerk_settingsBase (c : Fin 32) (r : ClerkRecord) (s : State) : (State.setClerk c r s).settingsBase = s.settingsBase := rfl
@[simp] theorem State.setClerk_directory (c : Fin 32) (r : ClerkRecord) (s : State) : (State.setClerk c r s).directory = s.directory := rfl
@[simp] theorem State.setClerk_told (c : Fin 32) (r : ClerkRecord) (s : State) : (State.setClerk c r s).told = s.told := rfl
@[simp] theorem State.setClerk_freeIndex (c : Fin 32) (r : ClerkRecord) (s : State) : (State.setClerk c r s).freeIndex = s.freeIndex := rfl

/-! ### State.setOrder -/

@[simp] theorem State.setOrder_pending (i : SlotNo) (o : Option Order) (s : State) : (State.setOrder i o s).pending = s.pending := rfl
@[simp] theorem State.setOrder_service (i : SlotNo) (o : Option Order) (s : State) : (State.setOrder i o s).service = s.service := rfl
@[simp] theorem State.setOrder_resetPin (i : SlotNo) (o : Option Order) (s : State) : (State.setOrder i o s).resetPin = s.resetPin := rfl
@[simp] theorem State.setOrder_mem (i : SlotNo) (o : Option Order) (s : State) : (State.setOrder i o s).mem = s.mem := rfl
@[simp] theorem State.setOrder_part (i : SlotNo) (o : Option Order) (s : State) : (State.setOrder i o s).part = s.part := rfl
@[simp] theorem State.setOrder_startFault (i : SlotNo) (o : Option Order) (s : State) : (State.setOrder i o s).startFault = s.startFault := rfl
@[simp] theorem State.setOrder_controlError (i : SlotNo) (o : Option Order) (s : State) : (State.setOrder i o s).controlError = s.controlError := rfl
@[simp] theorem State.setOrder_notice (i : SlotNo) (o : Option Order) (s : State) : (State.setOrder i o s).notice = s.notice := rfl
@[simp] theorem State.setOrder_route (i : SlotNo) (o : Option Order) (s : State) : (State.setOrder i o s).route = s.route := rfl
@[simp] theorem State.setOrder_window (i : SlotNo) (o : Option Order) (s : State) : (State.setOrder i o s).window = s.window := rfl
@[simp] theorem State.setOrder_lu (i : SlotNo) (o : Option Order) (s : State) : (State.setOrder i o s).lu = s.lu := rfl
@[simp] theorem State.setOrder_jw (i : SlotNo) (o : Option Order) (s : State) : (State.setOrder i o s).jw = s.jw := rfl
@[simp] theorem State.setOrder_lk (i : SlotNo) (o : Option Order) (s : State) : (State.setOrder i o s).lk = s.lk := rfl
@[simp] theorem State.setOrder_we (i : SlotNo) (o : Option Order) (s : State) : (State.setOrder i o s).we = s.we := rfl
@[simp] theorem State.setOrder_sd (i : SlotNo) (o : Option Order) (s : State) : (State.setOrder i o s).sd = s.sd := rfl
@[simp] theorem State.setOrder_pu (i : SlotNo) (o : Option Order) (s : State) : (State.setOrder i o s).pu = s.pu := rfl
@[simp] theorem State.setOrder_lc (i : SlotNo) (o : Option Order) (s : State) : (State.setOrder i o s).lc = s.lc := rfl
@[simp] theorem State.setOrder_pq (i : SlotNo) (o : Option Order) (s : State) : (State.setOrder i o s).pq = s.pq := rfl
@[simp] theorem State.setOrder_tu (i : SlotNo) (o : Option Order) (s : State) : (State.setOrder i o s).tu = s.tu := rfl
@[simp] theorem State.setOrder_dt (i : SlotNo) (o : Option Order) (s : State) : (State.setOrder i o s).dt = s.dt := rfl
@[simp] theorem State.setOrder_settingsBase (i : SlotNo) (o : Option Order) (s : State) : (State.setOrder i o s).settingsBase = s.settingsBase := rfl
@[simp] theorem State.setOrder_directory (i : SlotNo) (o : Option Order) (s : State) : (State.setOrder i o s).directory = s.directory := rfl
@[simp] theorem State.setOrder_told (i : SlotNo) (o : Option Order) (s : State) : (State.setOrder i o s).told = s.told := rfl
@[simp] theorem State.setOrder_freeIndex (i : SlotNo) (o : Option Order) (s : State) : (State.setOrder i o s).freeIndex = s.freeIndex := rfl

/-! ### State.setCall -/

@[simp] theorem State.setCall_pending (i : SlotNo) (c : Option CallRecord) (s : State) : (State.setCall i c s).pending = s.pending := rfl
@[simp] theorem State.setCall_service (i : SlotNo) (c : Option CallRecord) (s : State) : (State.setCall i c s).service = s.service := rfl
@[simp] theorem State.setCall_resetPin (i : SlotNo) (c : Option CallRecord) (s : State) : (State.setCall i c s).resetPin = s.resetPin := rfl
@[simp] theorem State.setCall_mem (i : SlotNo) (c : Option CallRecord) (s : State) : (State.setCall i c s).mem = s.mem := rfl
@[simp] theorem State.setCall_part (i : SlotNo) (c : Option CallRecord) (s : State) : (State.setCall i c s).part = s.part := rfl
@[simp] theorem State.setCall_startFault (i : SlotNo) (c : Option CallRecord) (s : State) : (State.setCall i c s).startFault = s.startFault := rfl
@[simp] theorem State.setCall_controlError (i : SlotNo) (c : Option CallRecord) (s : State) : (State.setCall i c s).controlError = s.controlError := rfl
@[simp] theorem State.setCall_notice (i : SlotNo) (c : Option CallRecord) (s : State) : (State.setCall i c s).notice = s.notice := rfl
@[simp] theorem State.setCall_route (i : SlotNo) (c : Option CallRecord) (s : State) : (State.setCall i c s).route = s.route := rfl
@[simp] theorem State.setCall_window (i : SlotNo) (c : Option CallRecord) (s : State) : (State.setCall i c s).window = s.window := rfl
@[simp] theorem State.setCall_lu (i : SlotNo) (c : Option CallRecord) (s : State) : (State.setCall i c s).lu = s.lu := rfl
@[simp] theorem State.setCall_jw (i : SlotNo) (c : Option CallRecord) (s : State) : (State.setCall i c s).jw = s.jw := rfl
@[simp] theorem State.setCall_lk (i : SlotNo) (c : Option CallRecord) (s : State) : (State.setCall i c s).lk = s.lk := rfl
@[simp] theorem State.setCall_we (i : SlotNo) (c : Option CallRecord) (s : State) : (State.setCall i c s).we = s.we := rfl
@[simp] theorem State.setCall_sd (i : SlotNo) (c : Option CallRecord) (s : State) : (State.setCall i c s).sd = s.sd := rfl
@[simp] theorem State.setCall_pu (i : SlotNo) (c : Option CallRecord) (s : State) : (State.setCall i c s).pu = s.pu := rfl
@[simp] theorem State.setCall_lc (i : SlotNo) (c : Option CallRecord) (s : State) : (State.setCall i c s).lc = s.lc := rfl
@[simp] theorem State.setCall_pq (i : SlotNo) (c : Option CallRecord) (s : State) : (State.setCall i c s).pq = s.pq := rfl
@[simp] theorem State.setCall_ot (i : SlotNo) (c : Option CallRecord) (s : State) : (State.setCall i c s).ot = s.ot := rfl
@[simp] theorem State.setCall_dt (i : SlotNo) (c : Option CallRecord) (s : State) : (State.setCall i c s).dt = s.dt := rfl
@[simp] theorem State.setCall_settingsBase (i : SlotNo) (c : Option CallRecord) (s : State) : (State.setCall i c s).settingsBase = s.settingsBase := rfl
@[simp] theorem State.setCall_directory (i : SlotNo) (c : Option CallRecord) (s : State) : (State.setCall i c s).directory = s.directory := rfl
@[simp] theorem State.setCall_told (i : SlotNo) (c : Option CallRecord) (s : State) : (State.setCall i c s).told = s.told := rfl
@[simp] theorem State.setCall_freeIndex (i : SlotNo) (c : Option CallRecord) (s : State) : (State.setCall i c s).freeIndex = s.freeIndex := rfl

/-! ### SD.tell -/

@[simp] theorem SD.tell_pending (st : Station) (s : State) : (SD.tell st s).pending = s.pending := rfl
@[simp] theorem SD.tell_service (st : Station) (s : State) : (SD.tell st s).service = s.service := rfl
@[simp] theorem SD.tell_resetPin (st : Station) (s : State) : (SD.tell st s).resetPin = s.resetPin := rfl
@[simp] theorem SD.tell_mem (st : Station) (s : State) : (SD.tell st s).mem = s.mem := rfl
@[simp] theorem SD.tell_part (st : Station) (s : State) : (SD.tell st s).part = s.part := rfl
@[simp] theorem SD.tell_startFault (st : Station) (s : State) : (SD.tell st s).startFault = s.startFault := rfl
@[simp] theorem SD.tell_controlError (st : Station) (s : State) : (SD.tell st s).controlError = s.controlError := rfl
@[simp] theorem SD.tell_notice (st : Station) (s : State) : (SD.tell st s).notice = s.notice := rfl
@[simp] theorem SD.tell_route (st : Station) (s : State) : (SD.tell st s).route = s.route := rfl
@[simp] theorem SD.tell_window (st : Station) (s : State) : (SD.tell st s).window = s.window := rfl
@[simp] theorem SD.tell_lu (st : Station) (s : State) : (SD.tell st s).lu = s.lu := rfl
@[simp] theorem SD.tell_jw (st : Station) (s : State) : (SD.tell st s).jw = s.jw := rfl
@[simp] theorem SD.tell_lk (st : Station) (s : State) : (SD.tell st s).lk = s.lk := rfl
@[simp] theorem SD.tell_we (st : Station) (s : State) : (SD.tell st s).we = s.we := rfl
@[simp] theorem SD.tell_sd (st : Station) (s : State) : (SD.tell st s).sd = s.sd := rfl
@[simp] theorem SD.tell_pu (st : Station) (s : State) : (SD.tell st s).pu = s.pu := rfl
@[simp] theorem SD.tell_lc (st : Station) (s : State) : (SD.tell st s).lc = s.lc := rfl
@[simp] theorem SD.tell_pq (st : Station) (s : State) : (SD.tell st s).pq = s.pq := rfl
@[simp] theorem SD.tell_tu (st : Station) (s : State) : (SD.tell st s).tu = s.tu := rfl
@[simp] theorem SD.tell_ot (st : Station) (s : State) : (SD.tell st s).ot = s.ot := rfl
@[simp] theorem SD.tell_dt (st : Station) (s : State) : (SD.tell st s).dt = s.dt := rfl
@[simp] theorem SD.tell_settingsBase (st : Station) (s : State) : (SD.tell st s).settingsBase = s.settingsBase := rfl
@[simp] theorem SD.tell_directory (st : Station) (s : State) : (SD.tell st s).directory = s.directory := rfl
@[simp] theorem SD.tell_freeIndex (st : Station) (s : State) : (SD.tell st s).freeIndex = s.freeIndex := rfl

/-! ### NU.set -/

@[simp] theorem NU.set_pending (f : Flag) (s : State) : (NU.set f s).pending = s.pending := rfl
@[simp] theorem NU.set_service (f : Flag) (s : State) : (NU.set f s).service = s.service := rfl
@[simp] theorem NU.set_resetPin (f : Flag) (s : State) : (NU.set f s).resetPin = s.resetPin := rfl
@[simp] theorem NU.set_mem (f : Flag) (s : State) : (NU.set f s).mem = s.mem := rfl
@[simp] theorem NU.set_part (f : Flag) (s : State) : (NU.set f s).part = s.part := rfl
@[simp] theorem NU.set_startFault (f : Flag) (s : State) : (NU.set f s).startFault = s.startFault := rfl
@[simp] theorem NU.set_controlError (f : Flag) (s : State) : (NU.set f s).controlError = s.controlError := rfl
@[simp] theorem NU.set_route (f : Flag) (s : State) : (NU.set f s).route = s.route := rfl
@[simp] theorem NU.set_window (f : Flag) (s : State) : (NU.set f s).window = s.window := rfl
@[simp] theorem NU.set_lu (f : Flag) (s : State) : (NU.set f s).lu = s.lu := rfl
@[simp] theorem NU.set_jw (f : Flag) (s : State) : (NU.set f s).jw = s.jw := rfl
@[simp] theorem NU.set_lk (f : Flag) (s : State) : (NU.set f s).lk = s.lk := rfl
@[simp] theorem NU.set_we (f : Flag) (s : State) : (NU.set f s).we = s.we := rfl
@[simp] theorem NU.set_sd (f : Flag) (s : State) : (NU.set f s).sd = s.sd := rfl
@[simp] theorem NU.set_pu (f : Flag) (s : State) : (NU.set f s).pu = s.pu := rfl
@[simp] theorem NU.set_lc (f : Flag) (s : State) : (NU.set f s).lc = s.lc := rfl
@[simp] theorem NU.set_pq (f : Flag) (s : State) : (NU.set f s).pq = s.pq := rfl
@[simp] theorem NU.set_tu (f : Flag) (s : State) : (NU.set f s).tu = s.tu := rfl
@[simp] theorem NU.set_ot (f : Flag) (s : State) : (NU.set f s).ot = s.ot := rfl
@[simp] theorem NU.set_dt (f : Flag) (s : State) : (NU.set f s).dt = s.dt := rfl
@[simp] theorem NU.set_settingsBase (f : Flag) (s : State) : (NU.set f s).settingsBase = s.settingsBase := rfl
@[simp] theorem NU.set_directory (f : Flag) (s : State) : (NU.set f s).directory = s.directory := rfl
@[simp] theorem NU.set_told (f : Flag) (s : State) : (NU.set f s).told = s.told := rfl
@[simp] theorem NU.set_freeIndex (f : Flag) (s : State) : (NU.set f s).freeIndex = s.freeIndex := rfl

/-! ### MP.write -/

@[simp] theorem MP.write_pending (a : Nat) (bs : List Byte) (s : State) : (MP.write a bs s).pending = s.pending := rfl
@[simp] theorem MP.write_service (a : Nat) (bs : List Byte) (s : State) : (MP.write a bs s).service = s.service := rfl
@[simp] theorem MP.write_resetPin (a : Nat) (bs : List Byte) (s : State) : (MP.write a bs s).resetPin = s.resetPin := rfl
@[simp] theorem MP.write_part (a : Nat) (bs : List Byte) (s : State) : (MP.write a bs s).part = s.part := rfl
@[simp] theorem MP.write_startFault (a : Nat) (bs : List Byte) (s : State) : (MP.write a bs s).startFault = s.startFault := rfl
@[simp] theorem MP.write_controlError (a : Nat) (bs : List Byte) (s : State) : (MP.write a bs s).controlError = s.controlError := rfl
@[simp] theorem MP.write_notice (a : Nat) (bs : List Byte) (s : State) : (MP.write a bs s).notice = s.notice := rfl
@[simp] theorem MP.write_route (a : Nat) (bs : List Byte) (s : State) : (MP.write a bs s).route = s.route := rfl
@[simp] theorem MP.write_window (a : Nat) (bs : List Byte) (s : State) : (MP.write a bs s).window = s.window := rfl
@[simp] theorem MP.write_lu (a : Nat) (bs : List Byte) (s : State) : (MP.write a bs s).lu = s.lu := rfl
@[simp] theorem MP.write_jw (a : Nat) (bs : List Byte) (s : State) : (MP.write a bs s).jw = s.jw := rfl
@[simp] theorem MP.write_lk (a : Nat) (bs : List Byte) (s : State) : (MP.write a bs s).lk = s.lk := rfl
@[simp] theorem MP.write_we (a : Nat) (bs : List Byte) (s : State) : (MP.write a bs s).we = s.we := rfl
@[simp] theorem MP.write_sd (a : Nat) (bs : List Byte) (s : State) : (MP.write a bs s).sd = s.sd := rfl
@[simp] theorem MP.write_pu (a : Nat) (bs : List Byte) (s : State) : (MP.write a bs s).pu = s.pu := rfl
@[simp] theorem MP.write_lc (a : Nat) (bs : List Byte) (s : State) : (MP.write a bs s).lc = s.lc := rfl
@[simp] theorem MP.write_pq (a : Nat) (bs : List Byte) (s : State) : (MP.write a bs s).pq = s.pq := rfl
@[simp] theorem MP.write_tu (a : Nat) (bs : List Byte) (s : State) : (MP.write a bs s).tu = s.tu := rfl
@[simp] theorem MP.write_ot (a : Nat) (bs : List Byte) (s : State) : (MP.write a bs s).ot = s.ot := rfl
@[simp] theorem MP.write_dt (a : Nat) (bs : List Byte) (s : State) : (MP.write a bs s).dt = s.dt := rfl
@[simp] theorem MP.write_settingsBase (a : Nat) (bs : List Byte) (s : State) : (MP.write a bs s).settingsBase = s.settingsBase := rfl
@[simp] theorem MP.write_directory (a : Nat) (bs : List Byte) (s : State) : (MP.write a bs s).directory = s.directory := rfl
@[simp] theorem MP.write_told (a : Nat) (bs : List Byte) (s : State) : (MP.write a bs s).told = s.told := rfl
@[simp] theorem MP.write_freeIndex (a : Nat) (bs : List Byte) (s : State) : (MP.write a bs s).freeIndex = s.freeIndex := rfl

/-! ### State.modLane -/

@[simp] theorem State.modLane_pending (ln : Lane) (f : LaneState → LaneState) (s : State) : (State.modLane ln f s).pending = s.pending := by cases ln <;> rfl
@[simp] theorem State.modLane_service (ln : Lane) (f : LaneState → LaneState) (s : State) : (State.modLane ln f s).service = s.service := by cases ln <;> rfl
@[simp] theorem State.modLane_resetPin (ln : Lane) (f : LaneState → LaneState) (s : State) : (State.modLane ln f s).resetPin = s.resetPin := by cases ln <;> rfl
@[simp] theorem State.modLane_mem (ln : Lane) (f : LaneState → LaneState) (s : State) : (State.modLane ln f s).mem = s.mem := by cases ln <;> rfl
@[simp] theorem State.modLane_part (ln : Lane) (f : LaneState → LaneState) (s : State) : (State.modLane ln f s).part = s.part := by cases ln <;> rfl
@[simp] theorem State.modLane_startFault (ln : Lane) (f : LaneState → LaneState) (s : State) : (State.modLane ln f s).startFault = s.startFault := by cases ln <;> rfl
@[simp] theorem State.modLane_controlError (ln : Lane) (f : LaneState → LaneState) (s : State) : (State.modLane ln f s).controlError = s.controlError := by cases ln <;> rfl
@[simp] theorem State.modLane_notice (ln : Lane) (f : LaneState → LaneState) (s : State) : (State.modLane ln f s).notice = s.notice := by cases ln <;> rfl
@[simp] theorem State.modLane_route (ln : Lane) (f : LaneState → LaneState) (s : State) : (State.modLane ln f s).route = s.route := by cases ln <;> rfl
@[simp] theorem State.modLane_window (ln : Lane) (f : LaneState → LaneState) (s : State) : (State.modLane ln f s).window = s.window := by cases ln <;> rfl
@[simp] theorem State.modLane_jw (ln : Lane) (f : LaneState → LaneState) (s : State) : (State.modLane ln f s).jw = s.jw := by cases ln <;> rfl
@[simp] theorem State.modLane_lk (ln : Lane) (f : LaneState → LaneState) (s : State) : (State.modLane ln f s).lk = s.lk := by cases ln <;> rfl
@[simp] theorem State.modLane_we (ln : Lane) (f : LaneState → LaneState) (s : State) : (State.modLane ln f s).we = s.we := by cases ln <;> rfl
@[simp] theorem State.modLane_sd (ln : Lane) (f : LaneState → LaneState) (s : State) : (State.modLane ln f s).sd = s.sd := by cases ln <;> rfl
@[simp] theorem State.modLane_pu (ln : Lane) (f : LaneState → LaneState) (s : State) : (State.modLane ln f s).pu = s.pu := by cases ln <;> rfl
@[simp] theorem State.modLane_lc (ln : Lane) (f : LaneState → LaneState) (s : State) : (State.modLane ln f s).lc = s.lc := by cases ln <;> rfl
@[simp] theorem State.modLane_pq (ln : Lane) (f : LaneState → LaneState) (s : State) : (State.modLane ln f s).pq = s.pq := by cases ln <;> rfl
@[simp] theorem State.modLane_tu (ln : Lane) (f : LaneState → LaneState) (s : State) : (State.modLane ln f s).tu = s.tu := by cases ln <;> rfl
@[simp] theorem State.modLane_ot (ln : Lane) (f : LaneState → LaneState) (s : State) : (State.modLane ln f s).ot = s.ot := by cases ln <;> rfl
@[simp] theorem State.modLane_dt (ln : Lane) (f : LaneState → LaneState) (s : State) : (State.modLane ln f s).dt = s.dt := by cases ln <;> rfl
@[simp] theorem State.modLane_settingsBase (ln : Lane) (f : LaneState → LaneState) (s : State) : (State.modLane ln f s).settingsBase = s.settingsBase := by cases ln <;> rfl
@[simp] theorem State.modLane_directory (ln : Lane) (f : LaneState → LaneState) (s : State) : (State.modLane ln f s).directory = s.directory := by cases ln <;> rfl
@[simp] theorem State.modLane_told (ln : Lane) (f : LaneState → LaneState) (s : State) : (State.modLane ln f s).told = s.told := by cases ln <;> rfl
@[simp] theorem State.modLane_freeIndex (ln : Lane) (f : LaneState → LaneState) (s : State) : (State.modLane ln f s).freeIndex = s.freeIndex := by cases ln <;> rfl

/-! ### DT.modAcc -/

@[simp] theorem DT.modAcc_pending (f : Accumulators → Accumulators) (s : State) : (DT.modAcc f s).pending = s.pending := rfl
@[simp] theorem DT.modAcc_service (f : Accumulators → Accumulators) (s : State) : (DT.modAcc f s).service = s.service := rfl
@[simp] theorem DT.modAcc_resetPin (f : Accumulators → Accumulators) (s : State) : (DT.modAcc f s).resetPin = s.resetPin := rfl
@[simp] theorem DT.modAcc_mem (f : Accumulators → Accumulators) (s : State) : (DT.modAcc f s).mem = s.mem := rfl
@[simp] theorem DT.modAcc_part (f : Accumulators → Accumulators) (s : State) : (DT.modAcc f s).part = s.part := rfl
@[simp] theorem DT.modAcc_startFault (f : Accumulators → Accumulators) (s : State) : (DT.modAcc f s).startFault = s.startFault := rfl
@[simp] theorem DT.modAcc_controlError (f : Accumulators → Accumulators) (s : State) : (DT.modAcc f s).controlError = s.controlError := rfl
@[simp] theorem DT.modAcc_notice (f : Accumulators → Accumulators) (s : State) : (DT.modAcc f s).notice = s.notice := rfl
@[simp] theorem DT.modAcc_route (f : Accumulators → Accumulators) (s : State) : (DT.modAcc f s).route = s.route := rfl
@[simp] theorem DT.modAcc_window (f : Accumulators → Accumulators) (s : State) : (DT.modAcc f s).window = s.window := rfl
@[simp] theorem DT.modAcc_lu (f : Accumulators → Accumulators) (s : State) : (DT.modAcc f s).lu = s.lu := rfl
@[simp] theorem DT.modAcc_jw (f : Accumulators → Accumulators) (s : State) : (DT.modAcc f s).jw = s.jw := rfl
@[simp] theorem DT.modAcc_lk (f : Accumulators → Accumulators) (s : State) : (DT.modAcc f s).lk = s.lk := rfl
@[simp] theorem DT.modAcc_we (f : Accumulators → Accumulators) (s : State) : (DT.modAcc f s).we = s.we := rfl
@[simp] theorem DT.modAcc_sd (f : Accumulators → Accumulators) (s : State) : (DT.modAcc f s).sd = s.sd := rfl
@[simp] theorem DT.modAcc_pu (f : Accumulators → Accumulators) (s : State) : (DT.modAcc f s).pu = s.pu := rfl
@[simp] theorem DT.modAcc_lc (f : Accumulators → Accumulators) (s : State) : (DT.modAcc f s).lc = s.lc := rfl
@[simp] theorem DT.modAcc_pq (f : Accumulators → Accumulators) (s : State) : (DT.modAcc f s).pq = s.pq := rfl
@[simp] theorem DT.modAcc_tu (f : Accumulators → Accumulators) (s : State) : (DT.modAcc f s).tu = s.tu := rfl
@[simp] theorem DT.modAcc_ot (f : Accumulators → Accumulators) (s : State) : (DT.modAcc f s).ot = s.ot := rfl
@[simp] theorem DT.modAcc_settingsBase (f : Accumulators → Accumulators) (s : State) : (DT.modAcc f s).settingsBase = s.settingsBase := rfl
@[simp] theorem DT.modAcc_directory (f : Accumulators → Accumulators) (s : State) : (DT.modAcc f s).directory = s.directory := rfl
@[simp] theorem DT.modAcc_told (f : Accumulators → Accumulators) (s : State) : (DT.modAcc f s).told = s.told := rfl
@[simp] theorem DT.modAcc_freeIndex (f : Accumulators → Accumulators) (s : State) : (DT.modAcc f s).freeIndex = s.freeIndex := rfl

/-! ### State.setError -/

@[simp] theorem State.setError_pending (e : ControlError) (s : State) : (State.setError e s).pending = s.pending := rfl
@[simp] theorem State.setError_service (e : ControlError) (s : State) : (State.setError e s).service = s.service := rfl
@[simp] theorem State.setError_resetPin (e : ControlError) (s : State) : (State.setError e s).resetPin = s.resetPin := rfl
@[simp] theorem State.setError_mem (e : ControlError) (s : State) : (State.setError e s).mem = s.mem := rfl
@[simp] theorem State.setError_part (e : ControlError) (s : State) : (State.setError e s).part = s.part := rfl
@[simp] theorem State.setError_startFault (e : ControlError) (s : State) : (State.setError e s).startFault = s.startFault := rfl
@[simp] theorem State.setError_notice (e : ControlError) (s : State) : (State.setError e s).notice = s.notice := rfl
@[simp] theorem State.setError_route (e : ControlError) (s : State) : (State.setError e s).route = s.route := rfl
@[simp] theorem State.setError_window (e : ControlError) (s : State) : (State.setError e s).window = s.window := rfl
@[simp] theorem State.setError_lu (e : ControlError) (s : State) : (State.setError e s).lu = s.lu := rfl
@[simp] theorem State.setError_jw (e : ControlError) (s : State) : (State.setError e s).jw = s.jw := rfl
@[simp] theorem State.setError_lk (e : ControlError) (s : State) : (State.setError e s).lk = s.lk := rfl
@[simp] theorem State.setError_we (e : ControlError) (s : State) : (State.setError e s).we = s.we := rfl
@[simp] theorem State.setError_sd (e : ControlError) (s : State) : (State.setError e s).sd = s.sd := rfl
@[simp] theorem State.setError_pu (e : ControlError) (s : State) : (State.setError e s).pu = s.pu := rfl
@[simp] theorem State.setError_lc (e : ControlError) (s : State) : (State.setError e s).lc = s.lc := rfl
@[simp] theorem State.setError_pq (e : ControlError) (s : State) : (State.setError e s).pq = s.pq := rfl
@[simp] theorem State.setError_tu (e : ControlError) (s : State) : (State.setError e s).tu = s.tu := rfl
@[simp] theorem State.setError_ot (e : ControlError) (s : State) : (State.setError e s).ot = s.ot := rfl
@[simp] theorem State.setError_dt (e : ControlError) (s : State) : (State.setError e s).dt = s.dt := rfl
@[simp] theorem State.setError_settingsBase (e : ControlError) (s : State) : (State.setError e s).settingsBase = s.settingsBase := rfl
@[simp] theorem State.setError_directory (e : ControlError) (s : State) : (State.setError e s).directory = s.directory := rfl
@[simp] theorem State.setError_told (e : ControlError) (s : State) : (State.setError e s).told = s.told := rfl
@[simp] theorem State.setError_freeIndex (e : ControlError) (s : State) : (State.setError e s).freeIndex = s.freeIndex := rfl

/-! ### Reading a table back -/

@[simp] theorem State.channel_setChannel (st : Station) (ch : Channel) (s : State) :
    (s.setChannel st ch).channel st = ch := by
  simp [State.channel, State.setChannel]

theorem State.channel_setChannel_ne (st st' : Station) (ch : Channel) (s : State) (h : st' ≠ st) :
    (s.setChannel st ch).channel st' = s.channel st' := by
  have h' : st.val ≠ st'.val := fun e => h (Fin.ext e.symm)
  simp [State.channel, State.setChannel, h']

@[simp] theorem State.dialogue_modDialogue (st : Station) (f : Dialogue → Dialogue) (s : State) :
    (s.modDialogue st f).dialogue st = f (s.dialogue st) := by
  simp [State.dialogue, State.modDialogue]

theorem State.dialogue_modDialogue_ne (st st' : Station) (f : Dialogue → Dialogue) (s : State) (h : st' ≠ st) :
    (s.modDialogue st f).dialogue st' = s.dialogue st' := by
  have h' : st.val ≠ st'.val := fun e => h (Fin.ext e.symm)
  simp [State.dialogue, State.modDialogue, h']

@[simp] theorem State.link_modLink (l : LinkNo) (f : Link → Link) (s : State) :
    (s.modLink l f).link l = f (s.link l) := by
  simp [State.link, State.modLink]

theorem State.link_modLink_ne (l l' : LinkNo) (f : Link → Link) (s : State) (h : l' ≠ l) :
    (s.modLink l f).link l' = s.link l' := by
  have h' : l.val ≠ l'.val := fun e => h (Fin.ext e.symm)
  simp [State.link, State.modLink, h']

@[simp] theorem State.printer_modPrinter (p : PrinterNo) (f : PrintQueue → PrintQueue) (s : State) :
    (s.modPrinter p f).printer p = f (s.printer p) := by
  simp [State.printer, State.modPrinter]

theorem State.printer_modPrinter_ne (p p' : PrinterNo) (f : PrintQueue → PrintQueue) (s : State) (h : p' ≠ p) :
    (s.modPrinter p f).printer p' = s.printer p' := by
  have h' : p.val ≠ p'.val := fun e => h (Fin.ext e.symm)
  simp [State.printer, State.modPrinter, h']

@[simp] theorem State.clerk_setClerk (c : Fin 32) (r : ClerkRecord) (s : State) : (s.setClerk c r).clerk c = r := by
  simp [State.clerk, State.setClerk]

theorem State.clerk_setClerk_ne (c c' : Fin 32) (r : ClerkRecord) (s : State) (h : c' ≠ c) :
    (s.setClerk c r).clerk c' = s.clerk c' := by
  have h' : c.val ≠ c'.val := fun e => h (Fin.ext e.symm)
  simp [State.clerk, State.setClerk, h']

@[simp] theorem State.order_setOrder (i : SlotNo) (o : Option Order) (s : State) : (s.setOrder i o).order i = o := by
  simp [State.order, State.setOrder]

theorem State.order_setOrder_ne (i i' : SlotNo) (o : Option Order) (s : State) (h : i' ≠ i) :
    (s.setOrder i o).order i' = s.order i' := by
  have h' : i.val ≠ i'.val := fun e => h (Fin.ext e.symm)
  simp [State.order, State.setOrder, h']

@[simp] theorem State.callRecord_setCall (i : SlotNo) (c : Option CallRecord) (s : State) :
    (s.setCall i c).callRecord i = c := by
  simp [State.callRecord, State.setCall]

theorem State.callRecord_setCall_ne (i i' : SlotNo) (c : Option CallRecord) (s : State) (h : i' ≠ i) :
    (s.setCall i c).callRecord i' = s.callRecord i' := by
  have h' : i.val ≠ i'.val := fun e => h (Fin.ext e.symm)
  simp [State.callRecord, State.setCall, h']

@[simp] theorem State.lane_modLane (ln : Lane) (f : LaneState → LaneState) (s : State) :
    (s.modLane ln f).lane ln = f (s.lane ln) := by
  cases ln <;> rfl

end Sys2Proof.Machine
end

