-- ==== Sys2Proof/Laws/Memory.lean ====
section
/-! SUPPORT. Counter memory: what a read gives after a write, and that every operation keeps the canonical form. -/

namespace Sys2Proof.Machine

open Sys2Proof

theorem portAddress_lt (a : Nat) : portAddress a < Config.memorySize :=
  Nat.mod_lt _ (by decide)

theorem Memory.get_of_above : ∀ (m : Memory) (lo a : Nat), Memory.above lo m = true → a ≤ lo → m.get a = 0
  | [], _, _, _, _ => rfl
  | (k, v) :: rest, lo, a, h, ha => by
    simp only [Memory.above, Bool.and_eq_true, decide_eq_true_eq] at h
    have hk : k ≠ a := by omega
    simp only [Memory.get, hk, if_false]
    exact Memory.get_of_above rest k a h.2 (by omega)

theorem Memory.above_mono : ∀ (m : Memory) (lo lo' : Nat), lo' ≤ lo → Memory.above lo m = true → Memory.above lo' m = true
  | [], _, _, _, _ => rfl
  | (k, v) :: rest, lo, lo', hl, h => by
    simp only [Memory.above, Bool.and_eq_true, decide_eq_true_eq] at h ⊢
    exact ⟨⟨by omega, h.1.2⟩, h.2⟩

/-- A write leaves every other address as it was. -/
theorem Memory.get_put_ne : ∀ (m : Memory) (a c : Nat) (b : Byte), c ≠ a → (m.put a b).get c = m.get c
  | [], a, c, b, h => by
    by_cases hb : b = 0#8 <;> simp [Memory.put, Memory.get, hb, Ne.symm h]
  | (k, v) :: rest, a, c, b, h => by
    unfold Memory.put
    by_cases h1 : a < k
    · by_cases hb : b = 0#8 <;> simp [h1, hb, Memory.get, Ne.symm h]
    · by_cases h2 : a = k
      · subst h2
        by_cases hb : b = 0#8 <;> simp [hb, Memory.get, Ne.symm h]
      · simp only [h1, h2, if_false, Memory.get]
        by_cases h3 : k = c
        · simp [h3]
        · simp only [h3, if_false]
          exact Memory.get_put_ne rest a c b h

/-- A write above `lo` keeps the form above `lo`. -/
theorem Memory.above_put : ∀ (m : Memory) (lo a : Nat) (b : Byte), Memory.above lo m = true → lo < a →
    Memory.above lo (m.put a b) = true
  | [], lo, a, b, _, ha => by
    by_cases hb : b = 0#8 <;> simp [Memory.put, Memory.above, hb, ha]
  | (k, v) :: rest, lo, a, b, h, ha => by
    have hk := h
    simp only [Memory.above, Bool.and_eq_true, decide_eq_true_eq] at hk
    unfold Memory.put
    by_cases h1 : a < k
    · by_cases hb : b = 0#8
      · simpa [h1, hb] using h
      · simp only [h1, hb, if_true, if_false, Memory.above, Bool.and_eq_true, decide_eq_true_eq, bne_iff_ne]
        simp_all
    · by_cases h2 : a = k
      · subst h2
        by_cases hb : b = 0#8
        · simp only [hb, if_true, lt_irrefl, if_false]
          exact Memory.above_mono rest a lo (by omega) hk.2
        · simp only [hb, if_true, lt_irrefl, if_false, Memory.above, Bool.and_eq_true, decide_eq_true_eq, bne_iff_ne]
          simp_all
      · simp only [h1, h2, if_false, Memory.above, Bool.and_eq_true, decide_eq_true_eq]
        exact ⟨⟨hk.1.1, hk.1.2⟩, Memory.above_put rest k a b hk.2 (by omega)⟩

/-- A write to an address above `lo` is read back. -/
theorem Memory.get_put_of_above : ∀ (m : Memory) (lo a : Nat) (b : Byte), Memory.above lo m = true → (m.put a b).get a = b
  | [], _, a, b, _ => by
    by_cases hb : b = 0#8 <;> simp [Memory.put, Memory.get, hb]
  | (k, v) :: rest, lo, a, b, h => by
    simp only [Memory.above, Bool.and_eq_true, decide_eq_true_eq] at h
    unfold Memory.put
    by_cases h1 : a < k
    · by_cases hb : b = 0#8
      · have hk : k ≠ a := by omega
        simp only [h1, hb, if_true, Memory.get, hk, if_false]
        exact Memory.get_of_above rest k a h.2 (by omega)
      · simp [h1, hb, Memory.get]
    · by_cases h2 : a = k
      · subst h2
        by_cases hb : b = 0#8
        · simp only [hb, if_true, lt_irrefl, if_false]
          exact Memory.get_of_above rest a a h.2 le_rfl
        · simp [hb, Memory.get]
      · have h3 : k ≠ a := fun e => h2 e.symm
        simp only [h1, h2, h3, if_false, Memory.get]
        exact Memory.get_put_of_above rest k a b h.2

theorem Memory.all_put (p : Nat → Bool) : ∀ (m : Memory) (a : Nat) (b : Byte), p a = true →
    m.all (fun c => p c.1) = true → (m.put a b).all (fun c => p c.1) = true
  | [], a, b, ha, _ => by
    by_cases hb : b = 0#8 <;> simp [Memory.put, hb, ha]
  | (k, v) :: rest, a, b, ha, h => by
    simp only [List.all_cons, Bool.and_eq_true] at h
    unfold Memory.put
    by_cases h1 : a < k
    · by_cases hb : b = 0#8 <;> simp [h1, hb, ha, h.1, h.2]
    · by_cases h2 : a = k
      · by_cases hb : b = 0#8 <;> simp [h2, hb, h.1, h.2]
      · simp only [h1, h2, if_false, List.all_cons, Bool.and_eq_true]
        exact ⟨h.1, Memory.all_put p rest a b ha h.2⟩

/-- The canonical form, spelled out: the first address is free, the rest rises above it. -/
theorem Memory.wf_cons (k : Nat) (v : Byte) (rest : Memory) :
    Memory.wf ((k, v) :: rest) = true ↔ v ≠ 0#8 ∧ Memory.above k rest = true ∧ k < Config.memorySize ∧
      rest.all (fun c => decide (c.1 < Config.memorySize)) = true := by
  simp [Memory.wf, and_assoc]

/-- A write inside counter memory keeps the canonical form. -/
theorem Memory.wf_put (m : Memory) (a : Nat) (b : Byte) (hm : m.wf = true) (ha : a < Config.memorySize) :
    (m.put a b).wf = true := by
  cases m with
  | nil => by_cases hb : b = 0#8 <;> simp [Memory.put, Memory.wf, Memory.above, hb, ha]
  | cons c rest =>
    obtain ⟨k, v⟩ := c
    obtain ⟨hv, hr, hk, hall⟩ := (Memory.wf_cons k v rest).mp hm
    unfold Memory.put
    by_cases h1 : a < k
    · by_cases hb : b = 0#8
      · simpa [h1, hb] using hm
      · simp only [h1, hb, if_true, if_false]
        refine (Memory.wf_cons a b _).mpr ⟨hb, ?_, ha, ?_⟩
        · simp [Memory.above, h1, hv, hr]
        · simp [hk, hall]
    · by_cases h2 : a = k
      · subst h2
        by_cases hb : b = 0#8
        · simp only [hb, if_true, lt_irrefl, if_false]
          cases rest with
          | nil => rfl
          | cons d rest' =>
            obtain ⟨k', v'⟩ := d
            simp only [Memory.above, Bool.and_eq_true, decide_eq_true_eq, bne_iff_ne] at hr
            simp only [List.all_cons, Bool.and_eq_true, decide_eq_true_eq] at hall
            exact (Memory.wf_cons k' v' rest').mpr ⟨hr.1.2, hr.2, hall.1, hall.2⟩
        · simp only [hb, lt_irrefl, if_false, if_true]
          exact (Memory.wf_cons a b rest).mpr ⟨hb, hr, ha, hall⟩
      · simp only [h1, h2, if_false]
        exact (Memory.wf_cons k v _).mpr ⟨hv, Memory.above_put rest k a b hr (by omega), hk,
          Memory.all_put (fun x => decide (x < Config.memorySize)) rest a b (by simpa using ha) hall⟩

/-- What is written is read back, in canonical form. -/
theorem Memory.get_put_self (m : Memory) (a : Nat) (b : Byte) (hm : m.wf = true) : (m.put a b).get a = b := by
  cases m with
  | nil => by_cases hb : b = 0#8 <;> simp [Memory.put, Memory.get, hb]
  | cons c rest =>
    obtain ⟨k, v⟩ := c
    obtain ⟨hv, hr, -, -⟩ := (Memory.wf_cons k v rest).mp hm
    unfold Memory.put
    by_cases h1 : a < k
    · by_cases hb : b = 0#8
      · have hk : k ≠ a := by omega
        simp only [h1, hb, if_true, Memory.get, hk, if_false]
        exact Memory.get_of_above rest k a hr (by omega)
      · simp [h1, hb, Memory.get]
    · by_cases h2 : a = k
      · subst h2
        by_cases hb : b = 0#8
        · simp only [hb, if_true, lt_irrefl, if_false]
          exact Memory.get_of_above rest a a hr le_rfl
        · simp [hb, Memory.get]
      · have h3 : k ≠ a := fun e => h2 e.symm
        simp only [h1, h2, h3, if_false, Memory.get]
        exact Memory.get_put_of_above rest k a b hr

/-- A write of the part keeps the canonical form. -/
theorem Memory.wf_writeIn (w : Option (Nat × Nat)) : ∀ (bs : List Byte) (m : Memory) (a : Nat), m.wf = true →
    (Memory.writeIn w m a bs).wf = true
  | [], _, _, h => h
  | b :: bs, m, a, h => by
    unfold Memory.writeIn
    refine Memory.wf_writeIn w bs _ _ ?_
    split
    · exact Memory.wf_put m _ b h (portAddress_lt a)
    · exact h

/-- A write of the part leaves every byte outside its window as it was (R161). -/
theorem Memory.get_writeIn_outside (w : Option (Nat × Nat)) (c : Nat) (hc : inWindow w c = false) :
    ∀ (bs : List Byte) (m : Memory) (a : Nat), (Memory.writeIn w m a bs).get c = m.get c
  | [], _, _ => rfl
  | b :: bs, m, a => by
    unfold Memory.writeIn
    rw [Memory.get_writeIn_outside w c hc bs]
    split
    · rename_i h
      exact Memory.get_put_ne m _ c b (fun e => by rw [e, h] at hc; cases hc)
    · rfl

/-- A write of the part leaves every byte it does not name as it was. -/
theorem Memory.get_writeIn_apart (w : Option (Nat × Nat)) (c : Nat) : ∀ (bs : List Byte) (m : Memory) (a : Nat),
    (∀ i, i < bs.length → portAddress (a + i) ≠ c) → (Memory.writeIn w m a bs).get c = m.get c
  | [], _, _, _ => rfl
  | b :: bs, m, a, h => by
    unfold Memory.writeIn
    have h0 : portAddress a ≠ c := by simpa using h 0 (by simp)
    rw [Memory.get_writeIn_apart w c bs _ (a + 1) (fun i hi => by
      rw [show a + 1 + i = a + (i + 1) by omega]
      exact h (i + 1) (by simpa using hi))]
    split
    · exact Memory.get_put_ne m _ c b (Ne.symm h0)
    · rfl

/-- Bytes written inside the window, short of the end of counter memory, are read back. -/
theorem Memory.bytes_writeIn_self (w : Option (Nat × Nat)) : ∀ (bs : List Byte) (m : Memory) (a : Nat), m.wf = true →
    a + bs.length ≤ Config.memorySize → (∀ i, i < bs.length → inWindow w (a + i) = true) →
    (Memory.writeIn w m a bs).bytes a bs.length = bs
  | [], _, _, _, _, _ => rfl
  | b :: bs, m, a, hm, ha, hw => by
    have hlen : a + 1 + bs.length ≤ Config.memorySize := by
      simp only [List.length_cons] at ha
      omega
    have ha' : portAddress a = a := Nat.mod_eq_of_lt (by omega)
    have hin : inWindow w (portAddress a) = true := by rw [ha']; simpa using hw 0 (by simp)
    unfold Memory.writeIn
    simp only [hin, if_true, List.length_cons, Memory.bytes]
    have hm' : (m.put (portAddress a) b).wf = true := Memory.wf_put m _ b hm (portAddress_lt a)
    congr 1
    · rw [Memory.get_writeIn_apart w (portAddress a) bs _ (a + 1) (fun i hi => by
        have hi' : portAddress (a + 1 + i) = a + 1 + i := Nat.mod_eq_of_lt (by omega)
        rw [hi', ha']
        omega)]
      exact Memory.get_put_self m _ b hm
    · exact Memory.bytes_writeIn_self w bs _ (a + 1) hm' hlen (fun i hi => by
        have := hw (i + 1) (by simpa using hi)
        rwa [show a + 1 + i = a + (i + 1) by omega])

theorem State.reset_mem_wf : State.reset.mem.wf = true := rfl

end Sys2Proof.Machine
end

