-- ==== Sys2Proof/Laws/Kept.lean ====
section
/-! SUPPORT. What every shared operation of the blocks keeps, said once for each: the queue, the pins, the registers but NOTICE, the write
window, the lanes, the form of counter memory and every byte outside the window. -/

namespace Sys2Proof.Machine

open Sys2Proof

/-- What no block's operation changes: the queue, the pins, the part, its registers but NOTICE, the window and the lanes. -/
def State.apart (s : State) : List Instr × Bool × Bool × PartState × StartFault × ControlError × BitVec 16 × Option (Nat × Nat)
    × LaneUnit × Nat × Directory :=
  (s.pending, s.service, s.resetPin, s.part, s.startFault, s.controlError, s.route, s.window, s.lu, s.settingsBase, s.directory)

/-- From `s` to `t` a block's operation keeps what is apart, the form of counter memory, and every byte outside the window (R161). -/
structure Kept (s t : State) : Prop where
  apart : t.apart = s.apart
  form : s.mem.wf = true → t.mem.wf = true
  bytes : ∀ a, inWindow s.window a = false → t.mem.get a = s.mem.get a

theorem Kept.refl (s : State) : Kept s s := ⟨rfl, id, fun _ _ => rfl⟩

theorem Kept.window {s t : State} (h : Kept s t) : t.window = s.window := by
  have := h.apart
  simp only [State.apart, Prod.mk.injEq] at this
  exact this.2.2.2.2.2.2.2.1

theorem Kept.lanes {s t : State} (h : Kept s t) : t.lu = s.lu := by
  have := h.apart
  simp only [State.apart, Prod.mk.injEq] at this
  exact this.2.2.2.2.2.2.2.2.1

theorem Kept.trans {s t u : State} (h : Kept s t) (k : Kept t u) : Kept s u :=
  ⟨k.apart.trans h.apart, fun w => k.form (h.form w),
    fun a ha => (k.bytes a (by rw [h.window]; exact ha)).trans (h.bytes a ha)⟩

/-- The state of an answer that has been taken apart. -/
theorem Kept.of_pair {s y : State} {α : Type} {p : State × α} {b : α} (k : Kept s p.1) (e : p = (y, b)) : Kept s y := by
  subst e
  exact k

/-- Either branch of a condition. -/
theorem Kept.ite {s y z : State} {c : Prop} [Decidable c] (hy : Kept s y) (hz : Kept s z) : Kept s (if c then y else z) := by
  split <;> assumption

/-- Any change of the blocks' own fields. -/
theorem Kept.blocks {s x : State} (h : Kept s x) {notice jw lk we sd pu lc pq tu ot dt told freeIndex} :
    Kept s { x with notice := notice, jw := jw, lk := lk, we := we, sd := sd, pu := pu, lc := lc, pq := pq, tu := tu, ot := ot
                    dt := dt, told := told, freeIndex := freeIndex } :=
  ⟨h.apart, h.form, h.bytes⟩

/-- A fold of an operation that keeps. -/
theorem Kept.foldl {s : State} {α : Type} (f : State → α → State) (hf : ∀ x a, Kept s x → Kept s (f x a)) :
    ∀ (l : List α) (x : State), Kept s x → Kept s (l.foldl f x)
  | [], _, h => h
  | a :: l, _, h => Kept.foldl f hf l _ (hf _ a h)

/-! ### Counter memory, flags, journal -/

theorem MP.write_kept {s x : State} (h : Kept s x) (a : Nat) (bs : List Byte) : Kept s (MP.write a bs x) :=
  h.trans ⟨rfl, fun w => Memory.wf_writeIn _ _ _ _ w, fun c hc => Memory.get_writeIn_outside _ c hc _ _ _⟩

theorem NU.set_kept {s x : State} (h : Kept s x) (f : Machine.Flag) : Kept s (NU.set f x) := h.blocks

theorem JW.check_kept {s x : State} (h : Kept s x) : Kept s (JW.check x) := by
  unfold JW.check
  split
  · exact h.blocks
  · split
    · exact h
    · exact NU.set_kept h.blocks _

theorem JW.write_kept {s x : State} (h : Kept s x) (r : RecordBody) : Kept s (JW.write r x) := by
  unfold JW.write
  dsimp only
  split
  · exact NU.set_kept (NU.set_kept (MP.write_kept (Kept.blocks (MP.write_kept h _ _)) _ _) _) _
  · exact NU.set_kept (MP.write_kept (Kept.blocks (MP.write_kept h _ _)) _ _) _

theorem JW.writeAll_kept {s : State} : ∀ (rs : List RecordBody) {x : State}, Kept s x → Kept s (JW.writeAll rs x)
  | [], _, h => h
  | r :: rs, _, h => JW.writeAll_kept rs (JW.write_kept h r)

theorem JW.flushList_kept {s : State} : ∀ (rs : List RecordBody) {x : State}, Kept s x → Kept s (JW.flushList rs x)
  | [], _, h => h.blocks
  | r :: rs, x, h => by
    unfold JW.flushList
    dsimp only
    split
    · exact JW.flushList_kept rs (JW.write_kept (JW.check_kept h) r)
    · exact (JW.check_kept h).blocks

theorem JW.flush_kept {s x : State} (h : Kept s x) : Kept s (JW.flush x) := JW.flushList_kept _ h

theorem JW.ask_kept {s x : State} (h : Kept s x) : Kept s (JW.ask x) := JW.check_kept (JW.flush_kept h)

theorem JW.offerC_kept {s x : State} (h : Kept s x) (r : RecordBody) : Kept s (JW.offerC r x) := by
  unfold JW.offerC
  dsimp only
  split
  · exact JW.write_kept (JW.ask_kept h) r
  · exact (JW.ask_kept h).blocks

theorem JW.offerI_kept {s x : State} (h : Kept s x) (r : RecordBody) : Kept s (JW.offerI r x) := by
  unfold JW.offerI
  dsimp only
  split
  · exact JW.write_kept (JW.ask_kept h) r
  · exact JW.ask_kept h

/-! ### Links, tables, displays -/

theorem State.modLink_kept {s x : State} (h : Kept s x) (l : LinkNo) (f : Link → Link) : Kept s (x.modLink l f) := h.blocks

theorem State.modDialogue_kept {s x : State} (h : Kept s x) (st : Station) (f : Dialogue → Dialogue) :
    Kept s (x.modDialogue st f) := h.blocks

theorem State.setChannel_kept {s x : State} (h : Kept s x) (st : Station) (ch : Channel) : Kept s (x.setChannel st ch) := h.blocks

theorem State.modPrinter_kept {s x : State} (h : Kept s x) (p : PrinterNo) (f : PrintQueue → PrintQueue) :
    Kept s (x.modPrinter p f) := h.blocks

theorem State.setClerk_kept {s x : State} (h : Kept s x) (c : Fin 32) (r : ClerkRecord) : Kept s (x.setClerk c r) := h.blocks

theorem State.setOrder_kept {s x : State} (h : Kept s x) (i : SlotNo) (o : Option Machine.Order) : Kept s (x.setOrder i o) := h.blocks

theorem State.setCall_kept {s x : State} (h : Kept s x) (i : SlotNo) (c : Option CallRecord) : Kept s (x.setCall i c) := h.blocks

theorem LK.join_kept {s x : State} (h : Kept s x) (l : LinkNo) (f : Frame) : Kept s (LK.join l f x) := by
  unfold LK.join
  split
  · exact h.blocks
  · exact h.blocks

theorem LK.hand_kept {s x : State} (h : Kept s x) (l : LinkNo) (f : Frame) : Kept s (LK.hand l f x) := by
  unfold LK.hand
  split
  · exact LK.join_kept h l f
  · exact h

theorem LK.handAll_kept {s x : State} (h : Kept s x) (l : LinkNo) (fs : List Frame) : Kept s (LK.handAll l fs x) :=
  Kept.foldl _ (fun _ f k => LK.hand_kept k l f) fs x h

theorem LK.startSilence_kept {s x : State} (h : Kept s x) (l : LinkNo) : Kept s (LK.startSilence l x) := h.blocks

theorem LK.goodFrame_kept {s x : State} (h : Kept s x) (l : LinkNo) : Kept s (LK.goodFrame l x) := by
  unfold LK.goodFrame
  dsimp only
  split
  · exact h.blocks
  · exact LK.startSilence_kept (State.modLink_kept h l _) l

theorem SD.tell_kept {s x : State} (h : Kept s x) (st : Station) : Kept s (SD.tell st x) := h.blocks

theorem SD.report_kept {s x : State} (h : Kept s x) (st : Station) (f : Dialogue → Dialogue) : Kept s (SD.report st f x) := h.blocks

theorem SD.reportAll_kept {s x : State} (h : Kept s x) (f : Dialogue → Dialogue) : Kept s (SD.reportAll f x) :=
  Kept.foldl _ (fun _ st k => SD.report_kept k st f) _ x h

theorem SD.refuse_kept {s x : State} (h : Kept s x) (st : Station) (m : Message) : Kept s (SD.refuse st m x) := h.blocks

theorem SD.deselect_kept {s x : State} (h : Kept s x) (st : Station) : Kept s (SD.deselect st x) :=
  State.setChannel_kept (State.modDialogue_kept h st _) st _

theorem SD.refresh_kept {s x : State} (h : Kept s x) (st : Station) : Kept s (SD.refresh st x) := by
  unfold SD.refresh
  split
  · dsimp only
    split
    · exact h
    · exact State.modDialogue_kept (LK.hand_kept h _ _) st _
  · exact h

theorem SD.flush_kept {s x : State} (h : Kept s x) : Kept s (SD.flush x) := by
  unfold SD.flush
  refine Kept.blocks ?_
  refine Kept.foldl _ (fun y st k => ?_) stations x h
  split
  · exact SD.refresh_kept k st
  · exact k

/-! ### Day, prices, labels, printers, tickets -/

theorem DT.modAcc_kept {s x : State} (h : Kept s x) (f : Accumulators → Accumulators) : Kept s (DT.modAcc f x) := h.blocks

theorem DT.modGrand_kept {s x : State} (h : Kept s x) (f : GrandTotals → GrandTotals) : Kept s (DT.modGrand f x) := h.blocks

theorem DT.writeTotals_kept {s x : State} (h : Kept s x) (read : Bool) (a : Nat) : Kept s (DT.writeTotals read a x) :=
  MP.write_kept h a _

theorem DT.setDay_kept {s x : State} (h : Kept s x) (d : DayState) : Kept s (DT.setDay d x) := NU.set_kept h.blocks _

theorem DT.complete_kept {s x : State} (h : Kept s x) (j : CloseJob) : Kept s (DT.complete j x) := by
  unfold DT.complete
  dsimp only
  exact DT.setDay_kept (Kept.blocks (SD.reportAll_kept (DT.modAcc_kept (JW.offerC_kept (JW.offerC_kept
    (DT.writeTotals_kept h.blocks _ _) _) _) _) _)) _

theorem DT.reported_kept {s x : State} (h : Kept s x) : Kept s (DT.reported x) := by
  unfold DT.reported
  split
  · split
    · exact DT.complete_kept h _
    · exact h
  · exact h

theorem PU.setFault_kept {s x : State} (h : Kept s x) : Kept s (PU.setFault x) := by
  unfold PU.setFault
  split
  · exact h
  · exact SD.reportAll_kept (NU.set_kept h.blocks _) _

theorem PU.clearFault_kept {s x : State} (h : Kept s x) : Kept s (PU.clearFault x) := by
  unfold PU.clearFault
  split
  · exact NU.set_kept h.blocks _
  · exact h

theorem PU.find_kept {s x : State} (h : Kept s x) (n : Nat) : Kept s (PU.find n x).1 := by
  unfold PU.find
  split
  · exact PU.setFault_kept h
  · exact h

theorem PU.checkActive_kept {s x : State} (h : Kept s x) : Kept s (PU.checkActive x).1 := by
  unfold PU.checkActive
  split
  · exact PU.setFault_kept h
  · split
    · exact PU.clearFault_kept h
    · exact PU.setFault_kept h

theorem PU.idle_kept {s x : State} (h : Kept s x) : Kept s (PU.idle x) := h.blocks

theorem PU.switch_kept {s x : State} (h : Kept s x) (j : PriceJob) : Kept s (PU.switch j x) := by
  unfold PU.switch
  dsimp only
  exact PU.idle_kept (Kept.foldl _ (fun _ st k => State.modDialogue_kept k st _) _ _
    (NU.set_kept (JW.offerC_kept (JW.offerC_kept (PU.clearFault_kept h.blocks) _) _) _))

theorem PU.completeSwitch_kept {s x : State} (h : Kept s x) : Kept s (PU.completeSwitch x) := by
  unfold PU.completeSwitch
  split
  · split
    · split
      · exact PU.switch_kept h _
      · exact PU.idle_kept (JW.offerC_kept h _)
    · exact h
  · exact h

theorem PU.completeCheck_kept {s x : State} (h : Kept s x) : Kept s (PU.completeCheck x) := by
  unfold PU.completeCheck
  split
  · split
    · split
      · exact PU.idle_kept (JW.offerC_kept (PU.clearFault_kept h) _)
      · exact PU.idle_kept (JW.offerC_kept (PU.setFault_kept h) _)
    · exact h
  · exact h

theorem LC.take_kept {s x : State} (h : Kept s x) (n : Nat) : Kept s (LC.take n x) := h.blocks

theorem PQ.send_kept {s x : State} (h : Kept s x) (p : PrinterNo) : Kept s (PQ.send p x) := by
  unfold PQ.send
  split
  · exact h
  · split
    · exact State.modPrinter_kept (LK.handAll_kept h _ _) p _
    · exact h

theorem PQ.place_kept {s x : State} (h : Kept s x) (p : PrinterNo) (j : LabelJob) : Kept s (PQ.place p j x) :=
  PQ.send_kept (State.modPrinter_kept h p _) p

theorem PQ.placeReprint_kept {s x : State} (h : Kept s x) (p : PrinterNo) (j : LabelJob) : Kept s (PQ.placeReprint p j x) :=
  PQ.send_kept (State.modPrinter_kept h p _) p

theorem PQ.event_kept {s x : State} (h : Kept s x) (p : PrinterNo) (e : PrinterEvent) (r : Option StopReason) :
    Kept s (PQ.event p e r x) :=
  NU.set_kept (JW.offerI_kept h _) _

theorem PQ.finishTop_kept {s x : State} (h : Kept s x) (p : PrinterNo) : Kept s (PQ.finishTop p x) := by
  unfold PQ.finishTop
  split
  · exact h
  · exact Kept.blocks (State.modPrinter_kept h p _)

theorem PQ.done_kept {s x : State} (h : Kept s x) (p : PrinterNo) (n : Nat) : Kept s (PQ.done p n x) := by
  unfold PQ.done
  dsimp only
  split
  · split
    · exact PQ.send_kept (State.modPrinter_kept (PQ.finishTop_kept h p) p _) p
    · split
      · exact PQ.send_kept (State.modPrinter_kept (PQ.finishTop_kept h p) p _) p
      · exact PQ.finishTop_kept h p
    · exact h
    · exact h
  · exact h

theorem PQ.fault_kept {s x : State} (h : Kept s x) (p : PrinterNo) (r : StopReason) : Kept s (PQ.fault p r x) := by
  unfold PQ.fault
  split
  · exact h
  all_goals exact PQ.event_kept (State.modPrinter_kept h p _) p _ _

theorem PQ.ready_kept {s x : State} (h : Kept s x) (p : PrinterNo) : Kept s (PQ.ready p x) := by
  unfold PQ.ready
  split
  · exact PQ.send_kept (State.modPrinter_kept h p _) p
  · exact h

theorem PQ.expire_kept {s x : State} (h : Kept s x) (p : PrinterNo) : Kept s (PQ.expire p x) := by
  unfold PQ.expire
  split
  · exact PQ.event_kept (State.modPrinter_kept h p _) p _ _
  · exact h

theorem PQ.linkUp_kept {s x : State} (h : Kept s x) (p : PrinterNo) : Kept s (PQ.linkUp p x) :=
  PQ.send_kept (State.modPrinter_kept h p _) p

theorem PQ.linkLoss_kept {s x : State} (h : Kept s x) (p : PrinterNo) : Kept s (PQ.linkLoss p x) := by
  unfold PQ.linkLoss
  split
  · exact h
  · exact PQ.event_kept (State.modPrinter_kept h p _) p _ _

theorem PQ.clear_kept {s x : State} (h : Kept s x) (p : PrinterNo) : Kept s (PQ.clear p x) := by
  unfold PQ.clear
  exact State.modPrinter_kept h p _

theorem TU.free_kept {s x : State} (h : Kept s x) (n : Nat) : Kept s (TU.free n x) := h.blocks

theorem TU.setLine_kept {s x : State} (h : Kept s x) (l : List LineEntry) : Kept s (TU.setLine l x) := h.blocks

theorem TU.lapse_kept {s x : State} (h : Kept s x) (c : LapseCause) (e : LineEntry) : Kept s (TU.lapse c e x) := by
  unfold TU.lapse DT.countLapsed
  exact DT.modGrand_kept (JW.offerI_kept (TU.free_kept h _) _) _

theorem TU.lapseAll_kept {s : State} : ∀ (es : List LineEntry) {x : State}, Kept s x → Kept s (TU.lapseAll es x)
  | [], _, h => h
  | _ :: es, _, h => TU.lapseAll_kept es (TU.lapse_kept (TU.setLine_kept h _) _ _)

theorem TU.placeSkipped_kept {s x : State} (h : Kept s x) (e : LineEntry) : Kept s (TU.placeSkipped e x) := by
  unfold TU.placeSkipped
  repeat' split
  · exact TU.lapse_kept h _ _
  · exact TU.lapse_kept h _ _
  · exact TU.lapse_kept h _ _
  · exact TU.setLine_kept h _

theorem TU.placeReturned_kept {s x : State} (h : Kept s x) (e : LineEntry) : Kept s (TU.placeReturned e x).1 := by
  unfold TU.placeReturned
  repeat' split
  · exact TU.lapse_kept h _ _
  · exact TU.lapse_kept h _ _
  · exact TU.setLine_kept h _

theorem TU.issue_kept {s x : State} (h : Kept s x) (src : TicketSource) : Kept s (TU.issue src x) := by
  unfold TU.issue DT.countIssued
  exact DT.modGrand_kept (TU.setLine_kept h.blocks _) _

theorem TU.answerTake_kept {s x : State} (h : Kept s x) (f : Frame) : Kept s (TU.answerTake f x) :=
  State.modLink_kept (LK.hand_kept h _ f) _ _

theorem TU.take_kept {s x : State} (h : Kept s x) : Kept s (TU.take x) := by
  unfold TU.take
  repeat' split
  · exact TU.answerTake_kept h _
  · exact TU.answerTake_kept h _
  · exact TU.answerTake_kept (TU.issue_kept h _) _

theorem TU.dispenserEvent_kept {s x : State} (h : Kept s x) (e : PrinterEvent) (r : Option StopReason) :
    Kept s (TU.dispenserEvent e r x) :=
  NU.set_kept (JW.offerI_kept h _) _

theorem TU.sendList_kept {s x : State} (h : Kept s x) : Kept s (TU.sendList x) := LK.hand_kept h _ _

theorem TU.call_kept {s x : State} (h : Kept s x) (i : SlotNo) (c : CallRecord) (o : Machine.Order) : Kept s (TU.call i c o x) := by
  unfold TU.call
  dsimp only
  exact State.setCall_kept (State.setOrder_kept (TU.sendList_kept (Kept.blocks (LK.hand_kept h _ _))) i _) i _

theorem TU.recall_kept {s x : State} (h : Kept s x) (i : SlotNo) (o : Machine.Order) : Kept s (TU.recall i o x) := by
  unfold TU.recall
  split
  · exact h
  · exact TU.call_kept h i _ o

theorem TU.stopTimer_kept {s x : State} (h : Kept s x) (i : SlotNo) : Kept s (TU.stopTimer i x) := h.blocks

/-! ### Orders and clerks -/

theorem OT.create_kept {s x : State} (h : Kept s x) (i : SlotNo) (t : Nat) (src : OrderSource) (st : OrderState)
    (c : Option (Fin 32)) : Kept s (OT.create i t src st c x) := h.blocks

theorem OT.setSlot_kept {s x : State} (h : Kept s x) (c : Fin 32) (i : Option SlotNo) : Kept s (OT.setSlot c i x) := h.blocks

theorem OT.setStation_kept {s x : State} (h : Kept s x) (c : Fin 32) (st : Option Station) : Kept s (OT.setStation c st x) := h.blocks

theorem OT.reportClerk_kept {s x : State} (h : Kept s x) (st : Option Station) : Kept s (OT.reportClerk st x) := by
  unfold OT.reportClerk
  split
  · exact h
  · exact SD.report_kept h _ _

theorem OT.signOn_kept {s x : State} (h : Kept s x) (c : Fin 32) (st : Station) : Kept s (OT.signOn c st x) := by
  unfold OT.signOn
  dsimp only
  refine OT.reportClerk_kept (OT.reportClerk_kept (OT.setStation_kept ?_ c _) _) _
  split
  · exact OT.setStation_kept h _ _
  · exact h

theorem OT.loseStation_kept {s x : State} (h : Kept s x) (st : Station) : Kept s (OT.loseStation st x) := by
  unfold OT.loseStation
  split
  · exact OT.setStation_kept h _ _
  · exact h

theorem OT.unbind_kept {s x : State} (h : Kept s x) (c : Option (Fin 32)) : Kept s (OT.unbind c x) := by
  unfold OT.unbind
  split
  · exact h
  · exact OT.setSlot_kept h _ _

theorem OT.dissolve_kept {s x : State} (h : Kept s x) (i : SlotNo) (o : Machine.Order) : Kept s (OT.dissolve i o x) := by
  unfold OT.dissolve
  dsimp only
  split
  · exact State.setCall_kept (State.setOrder_kept (OT.unbind_kept h _) i _) i _
  · exact SD.report_kept (State.setCall_kept (State.setOrder_kept (OT.unbind_kept h _) i _) i _) _ _

theorem OT.skip_kept {s x : State} (h : Kept s x) (i : SlotNo) (o : Machine.Order) : Kept s (OT.skip i o x) := by
  unfold OT.skip
  dsimp only
  refine DT.reported_kept (OT.dissolve_kept ?_ i o)
  split
  · exact TU.placeSkipped_kept (TU.stopTimer_kept h i) _
  · exact TU.stopTimer_kept h i

theorem OT.callExpiry_kept {s x : State} (h : Kept s x) (i : SlotNo) : Kept s (OT.callExpiry i x) := by
  unfold OT.callExpiry
  split
  · split
    · exact h
    · split
      · exact TU.recall_kept h i _
      · dsimp only
        split
        · exact OT.skip_kept h i _
        · exact SD.report_kept (OT.skip_kept h i _) _ _
  · exact h

theorem OT.putDown_kept {s x : State} (h : Kept s x) (c : Fin 32) : Kept s (OT.putDown c x).1 := by
  unfold OT.putDown
  split
  · exact h
  · split
    · dsimp only
      refine OT.dissolve_kept ?_ _ _
      split
      · exact TU.placeReturned_kept (TU.stopTimer_kept h _) _
      · exact h
    · exact State.setOrder_kept h _ _
    · exact State.setOrder_kept h _ _

theorem OT.signOff_kept {s x : State} (h : Kept s x) (c : Fin 32) : Kept s (OT.signOff c x).1 := by
  unfold OT.signOff
  dsimp only
  split
  · exact DT.reported_kept (OT.reportClerk_kept (State.setClerk_kept (OT.putDown_kept h c) c _) _)
  · exact OT.reportClerk_kept (State.setClerk_kept (OT.putDown_kept h c) c _) _

theorem OT.append_kept {s x : State} (h : Kept s x) (i : SlotNo) (o : Machine.Order) (item : Item) : Kept s (OT.append i o item x) := by
  unfold OT.append
  dsimp only
  split
  · exact State.setCall_kept (State.setOrder_kept h i _) i _
  · exact State.setOrder_kept h i _

theorem OT.voidNow_kept {s x : State} (h : Kept s x) (i : SlotNo) (o : Machine.Order) (c : VoidCause) : Kept s (OT.voidNow i o c x) := by
  have k : ∀ r, Kept s ((OT.unbind o.clerk (TU.free o.ticket ((DT.modAcc (Accumulators.addVoid o.items.length)
      (JW.write r x)).setCall i none))).setOrder i none) := fun r =>
    State.setOrder_kept (OT.unbind_kept (TU.free_kept (State.setCall_kept (DT.modAcc_kept (JW.write_kept h r) _) i _) _) _) i _
  unfold OT.voidNow
  dsimp only
  split
  · exact k _
  · split
    · exact k _
    · exact SD.report_kept (k _) _ _

theorem OT.void_kept {s x : State} (h : Kept s x) (i : SlotNo) (o : Machine.Order) (c : VoidCause) : Kept s (OT.void i o c x).1 := by
  unfold OT.void
  dsimp only
  split
  · exact DT.reported_kept (OT.voidNow_kept (JW.ask_kept h) i o c)
  · exact JW.ask_kept h

theorem OT.finish_kept {s x : State} (h : Kept s x) (i : SlotNo) (o : Machine.Order) (st : Station) (l : Layout) (p : PrinterNo) :
    Kept s (OT.finish i o st l p x) := by
  unfold OT.finish
  dsimp only
  exact DT.reported_kept (State.setOrder_kept (OT.unbind_kept (TU.free_kept (DT.modGrand_kept (PQ.place_kept (DT.modAcc_kept
    (JW.writeAll_kept _ (LC.take_kept h _)) _) p _) _) _) _) i _)

theorem OT.total_kept {s x : State} (h : Kept s x) (st : Station) : Kept s (OT.total st x) := by
  unfold OT.total
  split
  · exact SD.refuse_kept h st _
  · split
    · exact SD.refuse_kept h st _
    · split
      · exact SD.refuse_kept h st _
      · split
        · split
          · next h1 => exact Kept.of_pair (OT.void_kept h _ _ _) h1
          · next h1 => exact SD.refuse_kept (Kept.of_pair (OT.void_kept h _ _ _) h1) st _
        · dsimp only
          split
          · exact SD.refuse_kept (JW.ask_kept h) st _
          · split
            · exact SD.refuse_kept (JW.ask_kept h) st _
            · split
              · exact SD.refuse_kept (JW.ask_kept h) st _
              · exact OT.finish_kept (JW.ask_kept h) _ _ _ _ _

theorem DT.setForcing_kept {s x : State} (h : Kept s x) (f : Forcing) : Kept s (DT.setForcing f x) := h.blocks

theorem DT.forceNext_kept {s x : State} (h : Kept s x) : Kept s (DT.forceNext x) := by
  unfold DT.forceNext
  split
  · exact h
  · split
    · exact h
    · split
      · next h1 => exact Kept.of_pair (OT.void_kept (DT.setForcing_kept h .active) _ _ _) h1
      · next h1 => exact DT.setForcing_kept (Kept.of_pair (OT.void_kept (DT.setForcing_kept h .active) _ _ _) h1) _

theorem DT.force_kept {s x : State} (h : Kept s x) : Kept s (DT.force x) := by
  have k := DT.reported_kept (TU.lapseAll_kept (DT.setDay .forced x).tu.line (DT.setDay_kept h .forced))
  unfold DT.force
  dsimp only
  split
  · exact DT.forceNext_kept k
  · exact k

end Sys2Proof.Machine
end

