-- ==== Sys2Proof/Laws/KeptEvents.lean ====
section
/-! SUPPORT. What the dialogue's, the links' and the requests' operations keep, said once for each (see Laws/Kept.lean). -/

namespace Sys2Proof.Machine

open Sys2Proof

/-! ### The orders' keys -/

theorem OT.clerkKey_kept {s x : State} (h : Kept s x) (st : Station) (v : Option Nat) : Kept s (OT.clerkKey st v x) := by
  unfold OT.clerkKey
  split
  · split
    · exact SD.refuse_kept h st _
    · exact OT.signOff_kept h _
  · split
    · split
      · exact h
      · exact OT.signOn_kept h _ st
    · exact SD.refuse_kept h st _

theorem OT.next_kept {s x : State} (h : Kept s x) (st : Station) : Kept s (OT.next st x) := by
  unfold OT.next
  split
  · exact SD.refuse_kept h st _
  split
  · exact SD.refuse_kept h st _
  split
  · exact SD.refuse_kept h st _
  split
  · exact SD.refuse_kept h st _
  split
  · have k : ∀ i t c r v, Kept s ((OT.setSlot c (some i) (OT.create i t .line .called (some c) (TU.setLine r x))).setCall i v) :=
      fun i t c r v => State.setCall_kept (OT.setSlot_kept (OT.create_kept (TU.setLine_kept h r) i t _ _ _) c _) i v
    dsimp only
    split
    · refine DT.reported_kept ?_
      split
      · exact TU.call_kept (k _ _ _ _ _) _ _ _
      · exact k _ _ _ _ _
    · split
      · exact TU.call_kept (k _ _ _ _ _) _ _ _
      · exact k _ _ _ _ _
  · exact SD.refuse_kept h st _
  · exact SD.refuse_kept h st _

theorem OT.recallKey_kept {s x : State} (h : Kept s x) (st : Station) : Kept s (OT.recallKey st x) := by
  unfold OT.recallKey
  split
  · exact SD.refuse_kept h st _
  · split
    · exact TU.recall_kept h _ _
    · exact SD.refuse_kept h st _

theorem OT.skipKey_kept {s x : State} (h : Kept s x) (st : Station) : Kept s (OT.skipKey st x) := by
  unfold OT.skipKey
  split
  · exact SD.refuse_kept h st _
  · split
    · exact OT.skip_kept h _ _
    · exact SD.refuse_kept h st _

theorem OT.park_kept {s x : State} (h : Kept s x) (st : Station) : Kept s (OT.park st x) := by
  unfold OT.park
  repeat' split
  all_goals first
    | exact SD.refuse_kept h st _
    | exact State.setOrder_kept (OT.unbind_kept h _) _ _

theorem OT.orderKey_kept {s x : State} (h : Kept s x) (st : Station) (v : Option Nat) : Kept s (OT.orderKey st v x) := by
  unfold OT.orderKey
  repeat' split
  all_goals first
    | exact SD.refuse_kept h st _
    | exact State.setOrder_kept (OT.setSlot_kept h _ _) _ _

theorem OT.voidKey_kept {s x : State} (h : Kept s x) (st : Station) : Kept s (OT.voidKey st x) := by
  unfold OT.voidKey
  repeat' split
  all_goals first
    | exact SD.refuse_kept h st _
    | exact State.setOrder_kept h _ _

/-! ### The commit and the weight report -/

theorem SD.placeItem_kept {s x : State} (h : Kept s x) (d : Option (SlotNo × Machine.Order)) (item : Item) :
    Kept s (SD.placeItem d item x) := by
  unfold SD.placeItem
  split
  · exact OT.append_kept h _ _ _
  · exact DT.modAcc_kept (JW.write_kept h _) _

theorem SD.accept_kept {s x : State} (h : Kept s x) (st : Station) (auto : Bool) (d : Option (SlotNo × Machine.Order)) (p : Priced)
    (l : Layout) (q : PrinterNo) : Kept s (SD.accept st auto d p l q x) := by
  unfold SD.accept
  dsimp only
  refine State.modDialogue_kept ?_ st _
  refine Kept.ite (SD.placeItem_kept ?_ d _) (SD.deselect_kept (SD.placeItem_kept ?_ d _) st)
  all_goals exact DT.modGrand_kept (PQ.place_kept (LC.take_kept h _) _ _) _

theorem SD.settleCommit_kept {s x : State} (h : Kept s x) (st : Station) (auto : Bool) (d : Option (SlotNo × Machine.Order))
    (p : Priced) : Kept s (SD.settleCommit st auto d p x).1 := by
  have k : Kept s (match d with
      | some (_, o) => (x, OT.accepts o p.amount)
      | none => (JW.ask x, if JW.roomFor 1 (JW.ask x) then none else some Message.journalFull)).1 := by
    split
    · exact h
    · exact JW.ask_kept h
  unfold SD.settleCommit
  dsimp only
  split
  · exact k
  · split
    · exact k
    · exact k
    · exact SD.accept_kept k st auto d p _ _

theorem SD.commit_kept {s x : State} (h : Kept s x) (st : Station) (auto : Bool) (v : Option Nat) :
    Kept s (SD.commit st auto v x).1 := by
  unfold SD.commit
  split
  · exact h
  split
  · exact h
  split
  · exact h
  · exact h
  split
  · next h1 => exact Kept.of_pair (PU.find_kept h _) h1
  · next h1 => exact Kept.of_pair (PU.find_kept h _) h1
  · next h1 =>
    split
    · exact Kept.of_pair (PU.find_kept h _) h1
    · exact SD.settleCommit_kept (Kept.of_pair (PU.find_kept h _) h1) st auto _ _

theorem SD.commitShown_kept {s x : State} (h : Kept s x) (st : Station) (v : Option Nat) : Kept s (SD.commitShown st v x) := by
  unfold SD.commitShown
  split
  · next h1 => exact Kept.of_pair (SD.commit_kept h st _ _) h1
  · next h1 => exact SD.refuse_kept (Kept.of_pair (SD.commit_kept h st _ _) h1) st _

theorem SD.settlePrint_kept {s x : State} (h : Kept s x) (st : Station) : Kept s (SD.settlePrint st x) := by
  unfold SD.settlePrint
  dsimp only
  split
  · exact SD.commitShown_kept (State.modDialogue_kept (State.modDialogue_kept h st _) st _) st _
  · exact State.modDialogue_kept (State.modDialogue_kept h st _) st _
  · exact State.modDialogue_kept (State.modDialogue_kept h st _) st _
  · split
    · exact State.modDialogue_kept (State.modDialogue_kept h st _) st _
    · exact State.modDialogue_kept h st _
  · exact State.modDialogue_kept h st _
  · exact State.modDialogue_kept h st _

theorem SD.examineRun_kept {s x : State} (h : Kept s x) (st : Station) : Kept s (SD.examineRun st x) := by
  unfold SD.examineRun
  split
  · exact h
  · split
    · exact State.modDialogue_kept h st _
    · exact h
  · split
    · split
      · next h1 => exact State.modDialogue_kept (Kept.of_pair (SD.commit_kept h st _ _) h1) st _
      · next h1 => exact State.modDialogue_kept (Kept.of_pair (SD.commit_kept h st _ _) h1) st _
    · exact h

theorem SD.weightReport_kept {s x : State} (h : Kept s x) (st : Station) (arrival : Bool) (m : Option Message) (nz : Bool) :
    Kept s (SD.weightReport st arrival m nz x) := by
  unfold SD.weightReport
  dsimp only
  exact SD.tell_kept (SD.examineRun_kept (Kept.ite (SD.settlePrint_kept (State.modDialogue_kept h st _) st)
    (State.modDialogue_kept h st _)) st) st

theorem SD.arrival_kept {s x : State} (h : Kept s x) (st : Station) (gap : Bool) (raw : Int) : Kept s (SD.arrival st gap raw x) := by
  unfold SD.arrival
  split
  · exact h
  · split
    · exact h
    · exact SD.weightReport_kept (State.modDialogue_kept (State.setChannel_kept h st _) st _) st _ _ _

/-! ### The keys -/

theorem SD.readBuffer_kept {s x : State} (h : Kept s x) (st : Station) : Kept s (SD.readBuffer st x).2 := by
  unfold SD.readBuffer
  dsimp only
  exact State.modDialogue_kept h st _

theorem SD.select_kept {s x : State} (h : Kept s x) (st : Station) (r : PluRecord) : Kept s (SD.select st r x) := by
  unfold SD.select
  exact State.modDialogue_kept (State.setChannel_kept h st _) st _

theorem SD.keyOutcome_kept {s x : State} (h : Kept s x) (st : Station) (n : Nat) (k : KeyOutcome) :
    Kept s (SD.keyOutcome st n x k) := by
  unfold SD.keyOutcome
  split
  · exact SD.refuse_kept h st _
  · exact h
  · exact SD.weightReport_kept (State.setChannel_kept h st _) st _ _ _
  · exact SD.weightReport_kept (State.setChannel_kept h st _) st _ _ _
  · exact State.modDialogue_kept h st _

theorem SD.clearKey_kept {s x : State} (h : Kept s x) (st : Station) : Kept s (SD.clearKey st x) := by
  unfold SD.clearKey
  dsimp only
  repeat' split
  all_goals first
    | exact h
    | exact State.modDialogue_kept (SD.deselect_kept h st) st _
    | exact State.modDialogue_kept h st _

theorem SD.pluKey_kept {s x : State} (h : Kept s x) (st : Station) : Kept s (SD.pluKey st x) := by
  have k := SD.readBuffer_kept h st
  unfold SD.pluKey
  dsimp only
  split
  · exact SD.refuse_kept k st _
  split
  · exact SD.refuse_kept k st _
  split
  · next h1 => exact SD.refuse_kept (Kept.of_pair (PU.find_kept k _) h1) st _
  · next h1 => exact SD.refuse_kept (Kept.of_pair (PU.find_kept k _) h1) st _
  · next h1 => exact SD.select_kept (Kept.of_pair (PU.find_kept k _) h1) st _

theorem SD.repeatKey_kept {s x : State} (h : Kept s x) (st : Station) : Kept s (SD.repeatKey st x) := by
  unfold SD.repeatKey
  repeat' split
  all_goals first
    | exact SD.refuse_kept h st _
    | exact State.modDialogue_kept h st _

theorem SD.zeroKey_kept {s x : State} (h : Kept s x) (st : Station) : Kept s (SD.zeroKey st x) := by
  unfold SD.zeroKey
  repeat' split
  all_goals first
    | exact SD.refuse_kept h st _
    | exact SD.keyOutcome_kept h st _ _

theorem SD.tareKey_kept {s x : State} (h : Kept s x) (st : Station) : Kept s (SD.tareKey st x) := by
  unfold SD.tareKey
  dsimp only
  repeat' split
  all_goals first
    | exact SD.refuse_kept h st _
    | exact SD.keyOutcome_kept h st _ _

theorem SD.stopCall_kept {s x : State} (h : Kept s x) (st : Station) : Kept s (SD.stopCall st x) := by
  unfold SD.stopCall
  repeat' split
  · exact TU.stopTimer_kept h _
  · exact h
  · exact h

theorem SD.printSelected_kept {s x : State} (h : Kept s x) (st : Station) (v : Option Nat) (r : PluRecord) (c : Settings) :
    Kept s (SD.printSelected st v r c x) := by
  unfold SD.printSelected
  split
  · exact SD.refuse_kept h st _
  split
  · exact SD.refuse_kept h st _
  split
  · exact SD.refuse_kept h st _
  split
  · exact SD.refuse_kept h st _
  dsimp only
  split
  · exact State.modDialogue_kept (SD.stopCall_kept h st) st _
  · exact SD.commitShown_kept (SD.stopCall_kept h st) st _

theorem SD.printKey_kept {s x : State} (h : Kept s x) (st : Station) : Kept s (SD.printKey st x) := by
  have k := SD.readBuffer_kept h st
  unfold SD.printKey
  dsimp only
  repeat' split
  all_goals first
    | exact SD.refuse_kept h st _
    | exact SD.refuse_kept k st _
    | exact h
    | exact SD.printSelected_kept k st _ _ _

theorem SD.runKey_kept {s x : State} (h : Kept s x) (st : Station) : Kept s (SD.runKey st x) := by
  unfold SD.runKey
  dsimp only
  repeat' split
  all_goals first
    | exact SD.refuse_kept h st _
    | exact SD.examineRun_kept (State.modDialogue_kept h st _) st
    | exact State.modDialogue_kept h st _

theorem SD.checked_kept {s x : State} (h : Kept s x) (pending run : Bool) (st : Station) (f : State → State)
    (k : Kept s (f x)) : Kept s (SD.checked pending run st f x) := by
  unfold SD.checked
  split
  · exact SD.refuse_kept h st _
  · exact k

theorem SD.key_kept {s x : State} (h : Kept s x) (st : Station) (k : Key) : Kept s (SD.key st k x) := by
  unfold SD.key
  split
  · exact State.modDialogue_kept h st _
  · exact SD.clearKey_kept h st
  · exact SD.pluKey_kept h st
  · exact SD.repeatKey_kept h st
  · exact SD.zeroKey_kept h st
  · exact SD.tareKey_kept h st
  · exact SD.printKey_kept h st
  · exact SD.runKey_kept h st
  · exact OT.clerkKey_kept (SD.readBuffer_kept h st) st _
  · exact SD.checked_kept h _ _ st _ (OT.next_kept h st)
  · exact SD.checked_kept h _ _ st _ (OT.recallKey_kept h st)
  · exact SD.checked_kept h _ _ st _ (OT.skipKey_kept h st)
  · exact SD.checked_kept h _ _ st _ (OT.orderKey_kept (SD.readBuffer_kept h st) st _)
  · exact SD.checked_kept h _ _ st _ (OT.park_kept h st)
  · exact SD.checked_kept h _ _ st _ (OT.total_kept h st)
  · exact SD.checked_kept h _ _ st _ (OT.voidKey_kept h st)

theorem SD.takeKey_kept {s x : State} (h : Kept s x) (st : Station) (k : Key) : Kept s (SD.takeKey st k x) := by
  unfold SD.takeKey
  dsimp only
  refine SD.tell_kept ?_ st
  split
  · exact SD.key_kept (State.modDialogue_kept h st _) st k
  · exact SD.refuse_kept (State.modDialogue_kept h st _) st _

theorem SD.reLookup_kept {s x : State} (h : Kept s x) (st : Station) : Kept s (SD.reLookup st x) := by
  have k := State.modDialogue_kept h st (fun d => { d with relookup := false })
  unfold SD.reLookup
  split
  · dsimp only
    split
    · exact SD.tell_kept k st
    · split
      · next h1 => exact SD.report_kept (Kept.of_pair (PU.find_kept k _) h1) st _
      · next h1 => exact SD.tell_kept (State.modDialogue_kept (SD.deselect_kept (Kept.of_pair (PU.find_kept k _) h1) st) st _) st
      · next h1 => exact SD.tell_kept (State.modDialogue_kept (SD.deselect_kept (Kept.of_pair (PU.find_kept k _) h1) st) st _) st
  · exact h

/-! ### The station's link and settings -/

theorem SD.linkUp_kept {s x : State} (h : Kept s x) (st : Station) : Kept s (SD.linkUp st x) := by
  unfold SD.linkUp
  exact SD.weightReport_kept (State.modDialogue_kept (State.setChannel_kept (State.modLink_kept h _ _) st _) st _) st _ _ _

theorem SD.linkLoss_kept {s x : State} (h : Kept s x) (st : Station) : Kept s (SD.linkLoss st x) := by
  unfold SD.linkLoss
  exact SD.weightReport_kept (OT.loseStation_kept (State.modDialogue_kept (State.setChannel_kept h st _) st _) st) st _ _ _

theorem SD.disabled_kept {s x : State} (h : Kept s x) (st : Station) : Kept s (SD.disabled st x) := by
  unfold SD.disabled
  exact OT.loseStation_kept (State.modDialogue_kept (SD.deselect_kept h st) st _) st

theorem SD.disable_kept {s x : State} (h : Kept s x) (st : Station) (l : LoadStatus) : Kept s (SD.disable st l x) := by
  unfold SD.disable
  dsimp only
  refine SD.weightReport_kept ?_ st _ _ _
  split
  · exact SD.disabled_kept (State.setChannel_kept h st _) st
  · exact State.setChannel_kept h st _

theorem SD.settingsEvent_kept {s x : State} (h : Kept s x) (st : Station) (r : StationReason) (n : Nat) :
    Kept s (SD.settingsEvent st r n x) :=
  NU.set_kept (JW.offerI_kept h _) _

theorem SD.reload_kept {s x : State} (h : Kept s x) (st : Station) (c : Settings) : Kept s (SD.reload st c x) := by
  unfold SD.reload
  dsimp only
  refine SD.weightReport_kept ?_ st _ _ _
  split
  · exact SD.disabled_kept (State.modDialogue_kept (State.setChannel_kept h st _) st _) st
  · exact State.modDialogue_kept (State.setChannel_kept h st _) st _

theorem SD.reloadStation_kept {s x : State} (h : Kept s x) (st : Station) : Kept s (SD.reloadStation st x).1 := by
  unfold SD.reloadStation
  split
  · exact SD.settingsEvent_kept (SD.disable_kept h st _) st _ _
  · split
    · exact h
    · exact SD.reload_kept h st _

theorem SD.enable_kept {s x : State} (h : Kept s x) (st : Station) : Kept s (SD.enable st x) := by
  unfold SD.enable
  exact SD.weightReport_kept (State.setChannel_kept h st _) st _ _ _

theorem SD.modeAction_kept {s x : State} (h : Kept s x) (st : Station) (n : Nat) : Kept s (SD.modeAction st n x) := by
  unfold SD.modeAction
  dsimp only
  repeat' split
  all_goals first
    | exact h
    | exact SD.enable_kept h st
    | exact SD.disable_kept h st _
    | exact State.modDialogue_kept h st _

theorem SD.stationMode_kept {s x : State} (h : Kept s x) (st : Station) (n : Nat) : Kept s (SD.stationMode st n x).1 :=
  SD.tell_kept (SD.modeAction_kept h st n) st

/-! ### Link events -/

theorem LK.reportUp_kept {s x : State} (h : Kept s x) (l : LinkNo) : Kept s (LK.reportUp l x) := by
  unfold LK.reportUp
  repeat' split
  · exact SD.linkUp_kept h _
  · exact PQ.linkUp_kept h _
  · exact PQ.linkUp_kept h _
  · exact State.modLink_kept h _ _
  · exact TU.sendList_kept h

theorem LK.reportLoss_kept {s x : State} (h : Kept s x) (l : LinkNo) : Kept s (LK.reportLoss l x) := by
  unfold LK.reportLoss
  repeat' split
  · exact SD.linkLoss_kept h _
  · exact PQ.linkLoss_kept h _
  · exact PQ.linkLoss_kept h _
  · exact TU.dispenserEvent_kept h _ _
  · exact h

theorem LK.mismatchEvent_kept {s x : State} (h : Kept s x) (l : LinkNo) (c : Byte) : Kept s (LK.mismatchEvent l c x) := by
  unfold LK.mismatchEvent
  split
  · exact NU.set_kept (JW.offerI_kept h _) _
  · exact NU.set_kept (JW.offerI_kept h _) _

theorem LK.enter_kept {s x : State} (h : Kept s x) (l : LinkNo) (k : LinkState) : Kept s (LK.enter l k x) :=
  LK.startSilence_kept (State.modLink_kept h l _) l

theorem LK.welcome_kept {s x : State} (h : Kept s x) (l : LinkNo) (b : Bool) : Kept s (LK.welcome l b x) := LK.join_kept h l _

theorem LK.emptyOut_kept {s x : State} (h : Kept s x) (l : LinkNo) : Kept s (LK.emptyOut l x) := State.modLink_kept h l _

theorem LK.takeHello_kept {s x : State} (h : Kept s x) (l : LinkNo) (c : Byte) : Kept s (LK.takeHello l c x) := by
  have k := State.modLink_kept (LK.goodFrame_kept h l) l (fun k => { k with classHeard := some c })
  unfold LK.takeHello
  dsimp only
  split
  · exact LK.reportUp_kept (LK.welcome_kept (LK.enter_kept k l _) l _) l
  · exact LK.mismatchEvent_kept (LK.welcome_kept (LK.enter_kept k l _) l _) l c
  · exact LK.reportUp_kept (LK.welcome_kept (LK.reportLoss_kept k l) l _) l
  · exact LK.welcome_kept (LK.mismatchEvent_kept (LK.reportLoss_kept (LK.enter_kept (LK.emptyOut_kept k l) l _) l) l c) l _
  · exact LK.reportUp_kept (LK.welcome_kept (LK.enter_kept k l _) l _) l
  · exact LK.welcome_kept k l _

theorem LK.hello_kept {s x : State} (h : Kept s x) (l : LinkNo) (c : Byte) : Kept s (LK.hello l c x) := by
  unfold LK.hello
  split
  · exact LK.takeHello_kept h l c
  · exact h

theorem LK.take_kept {s x : State} (h : Kept s x) (l : LinkNo) (f : State → State) (hf : ∀ y, Kept s y → Kept s (f y)) :
    Kept s (LK.take l f x) := by
  unfold LK.take
  repeat' split
  · exact hf _ (LK.goodFrame_kept h l)
  · exact LK.goodFrame_kept h l
  · exact h

theorem LK.alive_kept {s x : State} (h : Kept s x) (l : LinkNo) : Kept s (LK.alive l x) := LK.take_kept h l _ (fun _ k => k)

theorem LK.sample_kept {s x : State} (h : Kept s x) (st : Station) (raw : BitVec 24) (q : Byte) : Kept s (LK.sample st raw q x) :=
  LK.take_kept h _ _ (fun _ k => SD.arrival_kept (State.modLink_kept k _ _) st _ _)

theorem LK.key_kept {s x : State} (h : Kept s x) (st : Station) (q : Byte) (key : Key) : Kept s (LK.key st q key x) :=
  LK.take_kept h _ _ (fun y k => by
    unfold LK.deliverKey
    split
    · exact k
    · exact SD.takeKey_kept (State.modLink_kept k _ _) st key)

theorem LK.takeFrame_kept {s x : State} (h : Kept s x) (q : Byte) : Kept s (LK.takeFrame q x) :=
  LK.take_kept h _ _ (fun y k => by
    unfold LK.deliverTake
    dsimp only
    repeat' split
    · exact LK.hand_kept k _ _
    · exact k
    · exact TU.take_kept (State.modLink_kept k _ _))

theorem LK.paperOut_kept {s x : State} (h : Kept s x) : Kept s (LK.paperOut x) :=
  LK.take_kept h _ _ (fun _ k => TU.dispenserEvent_kept k _ _)

theorem LK.done_kept {s x : State} (h : Kept s x) (p : PrinterNo) (n : Nat) : Kept s (LK.done p n x) :=
  LK.take_kept h _ _ (fun _ k => PQ.done_kept k p n)

theorem LK.fault_kept {s x : State} (h : Kept s x) (p : PrinterNo) (r : Byte) : Kept s (LK.fault p r x) :=
  LK.take_kept h _ _ (fun _ k => PQ.fault_kept k p _)

theorem LK.ready_kept {s x : State} (h : Kept s x) (p : PrinterNo) : Kept s (LK.ready p x) :=
  LK.take_kept h _ _ (fun _ k => PQ.ready_kept k p)

theorem LK.silenceExpiry_kept {s x : State} (h : Kept s x) (l : LinkNo) : Kept s (LK.silenceExpiry l x) := by
  unfold LK.silenceExpiry
  split
  · dsimp only
    split
    · exact LK.reportLoss_kept (LK.emptyOut_kept (State.modLink_kept h l _) l) l
    · exact State.modLink_kept h l _
  · exact h

theorem LK.dispatchStation_kept {s x : State} (h : Kept s x) (st : Station) (k : Nat) (p : List Byte) :
    Kept s (LK.dispatchStation st k p x) := by
  unfold LK.dispatchStation
  dsimp only
  split
  · exact LK.sample_kept h st _ _
  split
  · split
    · exact LK.key_kept h st _ _
    · exact LK.alive_kept h _
  · exact LK.alive_kept h _

theorem LK.dispatchPrinter_kept {s x : State} (h : Kept s x) (q : PrinterNo) (k : Nat) (p : List Byte) :
    Kept s (LK.dispatchPrinter q k p x) := by
  unfold LK.dispatchPrinter
  split
  · exact LK.done_kept h q _
  split
  · exact LK.fault_kept h q _
  split
  · exact LK.ready_kept h q
  · exact LK.alive_kept h _

theorem LK.dispatchDispenser_kept {s x : State} (h : Kept s x) (k : Nat) (p : List Byte) : Kept s (LK.dispatchDispenser k p x) := by
  unfold LK.dispatchDispenser
  split
  · exact LK.takeFrame_kept h _
  split
  · exact LK.paperOut_kept h
  · exact LK.alive_kept h _

theorem LK.dispatch_kept {s x : State} (h : Kept s x) (l : LinkNo) (f : Byte × List Byte) : Kept s (LK.dispatch l f x) := by
  unfold LK.dispatch
  dsimp only
  split
  · exact LK.hello_kept h l _
  split
  · exact LK.dispatchStation_kept h _ _ _
  split
  · exact LK.dispatchPrinter_kept h _ _ _
  split
  · exact LK.dispatchPrinter_kept h _ _ _
  split
  · exact LK.dispatchDispenser_kept h _ _
  · exact LK.alive_kept h l

theorem LK.bytesIn_kept {s x : State} (h : Kept s x) (l : LinkNo) (bs : List Byte) : Kept s (LK.bytesIn l bs x) := by
  unfold LK.bytesIn
  split
  · exact State.modLink_kept (Kept.foldl (fun s f => SD.flush (LK.dispatch l f s))
      (fun _ f k => SD.flush_kept (LK.dispatch_kept k l f)) _ x h) l _
  · exact h

theorem LK.frameSent_kept {s x : State} (h : Kept s x) (l : LinkNo) : Kept s (LK.frameSent l x) := by
  unfold LK.frameSent
  split
  · exact State.modLink_kept h l _
  · exact h

/-! ### Requests -/

theorem DT.openNow_kept {s x : State} (h : Kept s x) (t : Stamp) : Kept s (DT.openNow t x) := by
  unfold DT.openNow
  dsimp only
  exact JW.offerC_kept (DT.setDay_kept (TU.sendList_kept h.blocks) _) _

theorem DT.startClose_kept {s x : State} (h : Kept s x) (id : RequestId) (d a : Nat) : Kept s (DT.startClose id d a x) := by
  unfold DT.startClose
  dsimp only
  split
  · exact DT.force_kept (DT.setDay_kept h.blocks _)
  · exact DT.reported_kept (DT.setDay_kept h.blocks _)

theorem DT.cancel_kept {s x : State} (h : Kept s x) (j : CloseJob) : Kept s (DT.cancel j x) := by
  unfold DT.cancel
  dsimp only
  exact DT.setDay_kept (Kept.blocks (JW.offerC_kept h.blocks _)) _

theorem PU.startJob_kept {s x : State} (h : Kept s x) (j : PriceJob) (id : RequestId) : Kept s (PU.startJob j id x) := h.blocks

theorem PQ.reprint_kept {s x : State} (h : Kept s x) (n : Nat) (p : PrinterNo) : Kept s (PQ.reprint n p x).1 := by
  unfold PQ.reprint DT.countReprint
  repeat' split
  all_goals first
    | exact h
    | (dsimp only; exact DT.modGrand_kept (PQ.placeReprint_kept h p _) _)

theorem TU.drop_kept {s x : State} (h : Kept s x) (e : LineEntry) : Kept s (TU.drop e x) := by
  unfold TU.drop
  dsimp only
  split
  · exact DT.reported_kept (TU.lapse_kept (TU.setLine_kept h _) _ e)
  · exact TU.lapse_kept (TU.setLine_kept h _) _ e

theorem serveOpenDay_kept {s x : State} (h : Kept s x) (r : Request) : Kept s (serveOpenDay r x).1 := by
  unfold serveOpenDay
  split
  · exact h
  split
  · exact h
  split
  · exact h
  split
  · next h1 => exact Kept.of_pair (PU.checkActive_kept h) h1
  · next h1 => exact DT.openNow_kept (Kept.of_pair (PU.checkActive_kept h) h1) _

theorem serveCloseDay_kept {s x : State} (h : Kept s x) (r : Request) : Kept s (serveCloseDay r x).1 := by
  unfold serveCloseDay
  repeat' split
  all_goals first
    | exact h
    | exact DT.startClose_kept h _ _ _

theorem serveCancelClose_kept {s x : State} (h : Kept s x) (r : Request) : Kept s (serveCancelClose r x).1 := by
  unfold serveCancelClose
  repeat' split
  all_goals first
    | exact h
    | exact DT.cancel_kept h _
    | exact DT.setDay_kept h _

theorem serveSetClock_kept {s x : State} (h : Kept s x) (r : Request) : Kept s (serveSetClock r x).1 := by
  unfold serveSetClock
  split
  · exact h
  · exact h.blocks

theorem serveReadTotals_kept {s x : State} (h : Kept s x) (r : Request) : Kept s (serveReadTotals r x).1 := by
  unfold serveReadTotals
  split
  · exact h
  · exact DT.writeTotals_kept h _ _

theorem serveSwitchPrices_kept {s x : State} (h : Kept s x) (r : Request) : Kept s (serveSwitchPrices r x).1 := by
  unfold serveSwitchPrices
  repeat' split
  all_goals first
    | exact h
    | exact PU.startJob_kept h _ _

theorem serveCheckPrices_kept {s x : State} (h : Kept s x) (r : Request) : Kept s (serveCheckPrices r x).1 := by
  unfold serveCheckPrices
  repeat' split
  all_goals first
    | exact h
    | exact PU.startJob_kept h _ _

theorem serveReloadStation_kept {s x : State} (h : Kept s x) (r : Request) : Kept s (serveReloadStation r x).1 := by
  unfold serveReloadStation
  split
  · exact h
  · exact SD.reloadStation_kept h _

theorem serveStationMode_kept {s x : State} (h : Kept s x) (r : Request) : Kept s (serveStationMode r x).1 := by
  unfold serveStationMode
  repeat' split
  all_goals first
    | exact h
    | exact SD.stationMode_kept h _ _

theorem serveReadStation_kept {s x : State} (h : Kept s x) (r : Request) : Kept s (serveReadStation r x).1 := by
  unfold serveReadStation
  split <;> exact h

theorem serveReprint_kept {s x : State} (h : Kept s x) (r : Request) : Kept s (serveReprint r x).1 := by
  unfold serveReprint
  repeat' split
  all_goals first
    | exact h
    | exact PQ.reprint_kept h _ _

theorem servePrinterClear_kept {s x : State} (h : Kept s x) (r : Request) : Kept s (servePrinterClear r x).1 := by
  unfold servePrinterClear
  split
  · exact h
  · exact PQ.clear_kept h _

theorem serveIssueTicket_kept {s x : State} (h : Kept s x) (r : Request) : Kept s (serveIssueTicket r x).1 := by
  unfold serveIssueTicket
  repeat' split
  all_goals first
    | exact h
    | exact TU.issue_kept h _

theorem serveLineEdit_kept {s x : State} (h : Kept s x) (r : Request) : Kept s (serveLineEdit r x).1 := by
  unfold serveLineEdit TU.edit
  dsimp only
  repeat' split
  all_goals first
    | exact h
    | exact TU.setLine_kept h _
    | exact TU.drop_kept h _

theorem serveOpenOrder_kept {s x : State} (h : Kept s x) (r : Request) : Kept s (serveOpenOrder r x).1 := by
  unfold serveOpenOrder
  repeat' split
  all_goals first
    | exact h
    | exact OT.create_kept h.blocks _ _ _ _ _

theorem serveVoidOrder_kept {s x : State} (h : Kept s x) (r : Request) : Kept s (serveVoidOrder r x).1 := by
  unfold serveVoidOrder
  repeat' split
  all_goals first
    | exact h
    | (next h1 => exact Kept.of_pair (OT.void_kept h _ _ _) h1)

theorem serveClerkOff_kept {s x : State} (h : Kept s x) (r : Request) : Kept s (serveClerkOff r x).1 := by
  unfold serveClerkOff
  split
  · exact h
  · exact OT.signOff_kept h _

theorem serveReadOrder_kept {s x : State} (h : Kept s x) (r : Request) : Kept s (serveReadOrder r x).1 := by
  unfold serveReadOrder
  repeat' split
  all_goals exact h

theorem serveReadEquipment_kept {s x : State} (h : Kept s x) (r : Request) : Kept s (serveReadEquipment r x).1 := by
  unfold serveReadEquipment
  split <;> exact h

/-- R166, steps 3 to 6: whatever its kind, a request is checked and taken by its owner without a change to what is apart, and with every write
inside the window. -/
theorem serve_kept {s x : State} (h : Kept s x) (r : Request) : Kept s (serve r x).1 := by
  unfold serve
  split
  · exact serveOpenDay_kept h r
  · exact serveCloseDay_kept h r
  · exact serveCancelClose_kept h r
  · exact serveSetClock_kept h r
  · exact serveReadTotals_kept h r
  · exact serveSwitchPrices_kept h r
  · exact serveCheckPrices_kept h r
  · exact serveReloadStation_kept h r
  · exact serveStationMode_kept h r
  · exact serveReadStation_kept h r
  · exact serveReprint_kept h r
  · exact servePrinterClear_kept h r
  · exact serveIssueTicket_kept h r
  · exact serveLineEdit_kept h r
  · exact serveOpenOrder_kept h r
  · exact serveVoidOrder_kept h r
  · exact serveClerkOff_kept h r
  · exact serveReadOrder_kept h r
  · exact serveReadEquipment_kept h r
  · exact h

end Sys2Proof.Machine
end

