-- ==== Sys2Proof/Laws/PerInstr.lean ====
section
/-! SUPPORT. Laws said once for every command, one lemma per constructor: which commands are not well formed. -/

namespace Sys2Proof.Laws.IllFormed

open Sys2Proof

/-- A command that is not well formed is one of three: CONTROL_UNKNOWN_CODE with a code that has a row of its own, REGISTER_WRITE to an
offset that has one, HELLO with a class outside the four of 11.7. -/
def Statement (i : Instr) : Prop :=
  i.wellFormed = false →
    (∃ code, i = .controlUnknownCode code ∧ namedControlCode code = true)
      ∨ (∃ offset value, i = .registerWrite offset value ∧ namedWriteOffset offset = true)
      ∨ ∃ link cls, i = .hello link cls ∧ namedClassCode cls = false

theorem start : Statement (.start) := fun h => nomatch h

theorem startingComplete : Statement (.startingComplete) := fun h => nomatch h

theorem halt : Statement (.halt) := fun h => nomatch h

theorem reset : Statement (.reset) := fun h => nomatch h

theorem resetPin : Statement (.resetPin) := fun h => nomatch h

theorem rearmLanes : Statement (.rearmLanes) := fun h => nomatch h

theorem controlUnknownCode (code : Word) : Statement (.controlUnknownCode code) :=
  fun h => .inl ⟨code, rfl, by simpa [Instr.wellFormed] using h⟩

theorem wake (value : Word) : Statement (.wake value) := fun h => nomatch h

theorem noticeWrite (value : Word) : Statement (.noticeWrite value) := fun h => nomatch h

theorem noticeRouteWrite (value : Word) : Statement (.noticeRouteWrite value) := fun h => nomatch h

theorem registerWrite (offset value : Word) : Statement (.registerWrite offset value) :=
  fun h => .inr (.inl ⟨offset, value, rfl, by simpa [Instr.wellFormed] using h⟩)

theorem sweepTimerExpiry : Statement (.sweepTimerExpiry) := fun h => nomatch h

theorem sweep : Statement (.sweep) := fun h => nomatch h

theorem unknownKind : Statement (.unknownKind) := fun h => nomatch h

theorem openDay : Statement (.openDay) := fun h => nomatch h

theorem closeDay : Statement (.closeDay) := fun h => nomatch h

theorem cancelClose : Statement (.cancelClose) := fun h => nomatch h

theorem setClock : Statement (.setClock) := fun h => nomatch h

theorem readTotals : Statement (.readTotals) := fun h => nomatch h

theorem switchPrices : Statement (.switchPrices) := fun h => nomatch h

theorem checkPrices : Statement (.checkPrices) := fun h => nomatch h

theorem reloadStation : Statement (.reloadStation) := fun h => nomatch h

theorem stationMode : Statement (.stationMode) := fun h => nomatch h

theorem readStation : Statement (.readStation) := fun h => nomatch h

theorem reprint : Statement (.reprint) := fun h => nomatch h

theorem printerClear : Statement (.printerClear) := fun h => nomatch h

theorem issueTicket : Statement (.issueTicket) := fun h => nomatch h

theorem lineEdit : Statement (.lineEdit) := fun h => nomatch h

theorem openOrder : Statement (.openOrder) := fun h => nomatch h

theorem voidOrder : Statement (.voidOrder) := fun h => nomatch h

theorem clerkOff : Statement (.clerkOff) := fun h => nomatch h

theorem readOrder : Statement (.readOrder) := fun h => nomatch h

theorem readEquipment : Statement (.readEquipment) := fun h => nomatch h

theorem switchCompletion : Statement (.switchCompletion) := fun h => nomatch h

theorem checkCompletion : Statement (.checkCompletion) := fun h => nomatch h

theorem reLookup (station : Station) : Statement (.reLookup station) := fun h => nomatch h

theorem clockTick : Statement (.clockTick) := fun h => nomatch h

theorem callTimerExpiry (slot : SlotNo) : Statement (.callTimerExpiry slot) := fun h => nomatch h

theorem printTimerExpiry (printer : PrinterNo) : Statement (.printTimerExpiry printer) := fun h => nomatch h

theorem deadlineExpiry : Statement (.deadlineExpiry) := fun h => nomatch h

theorem forcedVoid : Statement (.forcedVoid) := fun h => nomatch h

theorem silenceTimerExpiry (link : LinkNo) : Statement (.silenceTimerExpiry link) := fun h => nomatch h

theorem hello (link : LinkNo) (cls : Byte) : Statement (.hello link cls) :=
  fun h => .inr (.inr ⟨link, cls, rfl, by simpa [Instr.wellFormed] using h⟩)

theorem alive (link : LinkNo) : Statement (.alive link) := fun h => nomatch h

theorem badFrame (link : LinkNo) (bytes : List Byte) : Statement (.badFrame link bytes) := fun h => nomatch h

theorem sample (station : Station) (raw : BitVec 24) (seq : Byte) : Statement (.sample station raw seq) := fun h => nomatch h

theorem keyDigit (station : Station) (seq : Byte) (digit : Fin 10) : Statement (.keyDigit station seq digit) := fun h => nomatch h

theorem keyClear (station : Station) (seq : Byte) : Statement (.keyClear station seq) := fun h => nomatch h

theorem keyPlu (station : Station) (seq : Byte) : Statement (.keyPlu station seq) := fun h => nomatch h

theorem keyRepeat (station : Station) (seq : Byte) : Statement (.keyRepeat station seq) := fun h => nomatch h

theorem keyZero (station : Station) (seq : Byte) : Statement (.keyZero station seq) := fun h => nomatch h

theorem keyTare (station : Station) (seq : Byte) : Statement (.keyTare station seq) := fun h => nomatch h

theorem keyPrint (station : Station) (seq : Byte) : Statement (.keyPrint station seq) := fun h => nomatch h

theorem keyRun (station : Station) (seq : Byte) : Statement (.keyRun station seq) := fun h => nomatch h

theorem keyClerk (station : Station) (seq : Byte) : Statement (.keyClerk station seq) := fun h => nomatch h

theorem keyNext (station : Station) (seq : Byte) : Statement (.keyNext station seq) := fun h => nomatch h

theorem keyRecall (station : Station) (seq : Byte) : Statement (.keyRecall station seq) := fun h => nomatch h

theorem keySkip (station : Station) (seq : Byte) : Statement (.keySkip station seq) := fun h => nomatch h

theorem keyOrder (station : Station) (seq : Byte) : Statement (.keyOrder station seq) := fun h => nomatch h

theorem keyPark (station : Station) (seq : Byte) : Statement (.keyPark station seq) := fun h => nomatch h

theorem keyTotal (station : Station) (seq : Byte) : Statement (.keyTotal station seq) := fun h => nomatch h

theorem keyVoid (station : Station) (seq : Byte) : Statement (.keyVoid station seq) := fun h => nomatch h

theorem printerDone (printer : PrinterNo) (serial : Word) : Statement (.printerDone printer serial) := fun h => nomatch h

theorem printerFault (printer : PrinterNo) (reason : Byte) : Statement (.printerFault printer reason) := fun h => nomatch h

theorem printerReady (printer : PrinterNo) : Statement (.printerReady printer) := fun h => nomatch h

theorem take (seq : Byte) : Statement (.take seq) := fun h => nomatch h

theorem paperOut : Statement (.paperOut) := fun h => nomatch h

theorem outgoingFrameSent (link : LinkNo) : Statement (.outgoingFrameSent link) := fun h => nomatch h

theorem resetPinRelease : Statement (.resetPinRelease) := fun h => nomatch h

end Sys2Proof.Laws.IllFormed
end

