-- ==== Sys2Proof/Tests/Slice0.lean ====
section
/-! SUPPORT. The author's own tests: the smoke of WellFormed, the check values of the CRCs, the worked tables of the manual, one small test
of a command where the manual works it, and for each statement of Certificates/Slice0 with hypotheses a state and operands that meet
them. Expected values stand in the manual's worked sequences and tables, named at each test. -/

namespace Sys2Proof.Tests

open Sys2Proof Sys2Proof.Machine

set_option Elab.async false

/-! ### A small counter -/

/-- The calibration of 1.5. -/
def cal : Calibration :=
  { capacity := 15000000, range1Max := 6000000, d1 := 2000, d2 := 5000, calZero := 120000, spanNum := 15, spanDen := 8 }

/-- The settings of 1.5, with every permission. -/
def cfg : Settings :=
  { enabled := true, cal := cal, filterLen := 4, motionBand := 40, stableCount := 3, printWait := 10, linkTimeout := 300
    preferred := 0, alternate := some 1, looseAllowed := true, repeatAllowed := true, runAllowed := true
    zeroTracking := false }

/-- A channel with the settings of 1.5, in STABLE with the load of 1.5 at arrival 10. -/
def channel : Channel :=
  { Channel.reset with
    load := .loaded, enabled := true, settings := some cfg, heldCal := some cal, ring := [780121, 780121, 780119, 780121]
    average := 780121, stable := 0, zeroTried := true, zeroOffset := -70, initialOffset := -70, state := .stable
    gross := 1237858, net := 1237858, shown := some 1238000, range := some .one }

/-- A weighed PLU. -/
def ham : PluRecord :=
  { plu := 4521, kind := .weighed, department := 3, layout := 2, repeatDefault := false, unitPrice := 1899, fixedTare := 0
    shelfLife := 5, markdown := 0, name := List.replicate 24 0x20 }

/-- Its record of 3.2 as bytes. -/
def hamBytes : List Byte :=
  leBytes 4 4521 ++ [0, 3, 2, 0] ++ leBytes 4 1899 ++ leBytes 4 0 ++ leBytes 2 5 ++ [0, 0] ++ List.replicate 24 0x20
    ++ zeros 4

/-- A layout with one field, the amount. -/
def plain : Layout :=
  { lineCount := 1, width := 20,
    entries := [{ kind := .amount, row := 1, column := 1, length := 8, format := 0,
                  pattern := [0x24, 0x5A, 0x5A, 0x5A, 0x39, 0x2E, 0x39, 0x39] }] }

/-- A RUNNING counter on an OPEN day: lanes, journal and window as R155 wants them, bank A active with one record, every link UP, every
station ENABLED and STABLE, both printers READY. -/
def counter : State :=
  { State.reset with
    part := .running, window := some (0, 65536), settingsBase := 0x12000
    mem := (State.reset.hostWrite 0x20000 hamBytes).mem
    lu := { LaneUnit.reset with
      urgent := { LaneState.reset with slotBase := 1024, capacity := 8 }
      routine := { LaneState.reset with slotBase := 2048, capacity := 16 }, routineBurst := 4 }
    jw := { JournalWriter.reset with base := 4096, capacity := 64, highMark := 8 }
    lk := Vector.replicate 12 { Link.reset with state := .up, silence := some 300 }
    we := Vector.replicate 8 channel
    pu := { PriceUnit.reset with active := some .a, count := 1, crc := crc32 hamBytes, epoch := 1, bankA := 0x20000, bankB := 0x30000 }
    lc := { LabelComposer.reset with layouts := Vector.replicate 8 (.usable plain), total := some 0, base := 0x10000 }
    pq := Vector.replicate 2 { PrintQueue.reset with state := .ready, timeout := 10 }
    dt := { DayUnit.reset with day := .opened } }

/-- The state whose sweep is past its steps 1 and 2, with the words of a request in the next slot of a lane. -/
def asks (ln : Lane) (words : List Nat) (s : State) : State :=
  let t := (s.hostWrite (LU.slot (s.lane ln)) (words.flatMap (leBytes 4))).hostWrite (ln.words + 8) (leBytes 4 ((s.lane ln).taken.toNat + 1))
  { t with lu := { t.lu with sweep := some { opened := true, routineTaken := 0 } } }

/-- What holds of the next state of a command. -/
def after (c : Instr) (s : State) (p : State → Bool) : Bool :=
  match exec c s with
  | .next t => p t
  | .fault _ => false
  | .refused _ => false

/-- The dialogue of station 3 changed. -/
def dlg (f : Dialogue → Dialogue) (s : State) : State := s.modDialogue 3 f

/-- The channel of station 3 changed. -/
def chan (f : Channel → Channel) (s : State) : State := s.setChannel 3 (f (s.channel 3))

/-- The day state changed. -/
def onDay (d : DayState) (s : State) : State := { s with dt := { s.dt with day := d } }

/-- An order of clerk 7 in slot 0 with ticket 42. -/
def order118 : Machine.Order :=
  { number := 118, ticket := 42, source := .line, state := .opened, clerk := some 6, items := [], total := 0, opened := 0
    callCount := 1, lastStation := none }

/-- An item of an order. -/
def item1 : Item :=
  { number := 1, plu := 4521, kind := .weighed, epoch := 1, department := 3, net := 1238, count := 0, tare := 0
    unitPrice := 1899, markdown := 0, amount := 2351, serial := 1, station := 3, clerk := some 6, pricedAt := Stamp.reset
    voided := false }

/-- An entry of the line. -/
def entry42 : LineEntry := { ticket := 42, issued := 0, skips := 0, source := .dispenser }

/-- Clerk 7 at station 3 with an order in slot 0. -/
def serving (o : Machine.Order) (s : State) : State :=
  (s.setClerk 6 { station := some 3, slot := some 0 }).setOrder 0 (some o)

/-- Clerk 7 at station 3, without an order. -/
def clerked (s : State) : State := s.setClerk 6 { station := some 3, slot := none }

/-- A label job. -/
def label1 : LabelJob := { serial := 1, kind := .item, reprintCount := 0, station := 3, orderNumber := none, text := [[]] }

/-- The journal with `n` records used. -/
def used (n : Nat) (s : State) : State := { s with jw := { s.jw with written := BitVec.ofNat 32 n } }


/-- A command that answers a next state with `p` has that next state. -/
theorem of_after {c : Instr} {s : State} {p : State → Bool} (h : after c s p = true) : ∃ t, exec c s = .next t ∧ p t = true := by
  unfold after at h
  split at h
  · exact ⟨_, ‹_›, h⟩
  · cases h
  · cases h

/-! ### WellFormed, decoding and check codes -/

theorem test_wellFormed_refuses_a_named_code :
    (Instr.controlUnknownCode 1).wellFormed = false ∧ (Instr.controlUnknownCode 4).wellFormed = false
      ∧ (Instr.controlUnknownCode 0).wellFormed = true ∧ (Instr.controlUnknownCode 5).wellFormed = true := by decide

theorem test_wellFormed_refuses_an_offset_with_a_row :
    (Instr.registerWrite 0x04 0).wellFormed = false ∧ (Instr.registerWrite 0x10 0).wellFormed = false
      ∧ (Instr.registerWrite 0x00 0).wellFormed = true ∧ (Instr.registerWrite 0x14 0).wellFormed = true := by decide

theorem test_wellFormed_refuses_a_class_outside_the_table :
    (Instr.hello 3 0).wellFormed = false ∧ (Instr.hello 3 5).wellFormed = false ∧ (Instr.hello 3 1).wellFormed = true
      ∧ (Instr.hello 3 4).wellFormed = true := by decide

/-- The table gives no row bits, so no word spells a command. -/
theorem test_no_word_spells_a_command : decodeTableWord 8 1 = none ∧ (counter.withFetchWord 8 1).pending = [] := by decide

/-- "123456789" as bytes. -/
def nineDigits : List Byte := [0x31, 0x32, 0x33, 0x34, 0x35, 0x36, 0x37, 0x38, 0x39]

/-- R175: the CRC-16 of "123456789" is 0x29B1. -/
theorem test_crc16_check_value : crc16 nineDigits = 0x29B1#16 := by decide +kernel

/-- R56: the CRC-32 of "123456789" is 0xCBF43926. -/
theorem test_crc32_check_value : crc32 nineDigits = 0xCBF43926#32 := by decide +kernel

/-! ### Worked tables of the manual -/

/-- 1.5, the averages of arrivals 3, 4 and 10, and 1.8, half away from zero on both sides. -/
theorem test_rounding_is_half_away_from_zero :
    roundDiv 359791 3 = 119930 ∧ roundDiv 479722 4 = 119931 ∧ roundDiv (-1050) 8 = -131 ∧ roundDiv (-3000) 2000 = -2
      ∧ roundDiv 3000 2000 = 2 ∧ roundDiv 2500 1000 = 3 := by decide +kernel

/-- 3.10, the WEIGHED table. -/
theorem test_weighed_amounts :
    checkAmount (weighedAmount ham 1238000) = .ok 2351
      ∧ checkAmount (weighedAmount { ham with markdown := 10 } 1238000) = .ok 2116
      ∧ checkAmount (weighedAmount { ham with unitPrice := 1234 } 1250000) = .ok 1543
      ∧ checkAmount (weighedAmount { ham with unitPrice := 12 } 40000) = .error .belowMin
      ∧ checkAmount (weighedAmount { ham with unitPrice := 13 } 40000) = .ok 1
      ∧ checkAmount (weighedAmount { ham with unitPrice := 66490 } 15045000) = .error .priceLimit
      ∧ checkAmount (weighedAmount { ham with unitPrice := 66490, markdown := 10 } 15045000) = .ok 900308 := by decide +kernel

/-- 3.10, the COUNTED and FIXED tables. -/
theorem test_counted_and_fixed_amounts :
    checkAmount (countedAmount { ham with unitPrice := 1099, markdown := 50 } 1) = .ok 550
      ∧ checkAmount (countedAmount { ham with unitPrice := 249, markdown := 15 } 3) = .ok 635
      ∧ checkAmount (countedAmount { ham with unitPrice := 12000 } 99) = .error .priceLimit
      ∧ checkAmount (countedAmount { ham with unitPrice := 12000, markdown := 20 } 99) = .ok 950400
      ∧ checkAmount (countedAmount { ham with unitPrice := 599, markdown := 25 } 1) = .ok 449
      ∧ checkAmount (countedAmount { ham with unitPrice := 5, markdown := 90 } 1) = .ok 1 := by decide +kernel

/-- 4.4, worked edits: rows 1, 7, 8, 10, 12, 14 and 16. -/
theorem test_worked_edits :
    numericEdit [0x24, 0x5A, 0x5A, 0x5A, 0x39, 0x2E, 0x39, 0x39] 2351 = [0x20, 0x20, 0x24, 0x32, 0x33, 0x2E, 0x35, 0x31]
      ∧ numericEdit [0x5A, 0x5A, 0x5A, 0x2C, 0x5A, 0x5A, 0x39] 52 = [0x20, 0x20, 0x20, 0x20, 0x20, 0x35, 0x32]
      ∧ numericEdit [0x24, 0x5A, 0x2C, 0x5A, 0x5A, 0x5A, 0x2C, 0x5A, 0x5A, 0x39, 0x2E, 0x39, 0x39] 123456
          = [0x20, 0x20, 0x20, 0x20, 0x24, 0x31, 0x2C, 0x32, 0x33, 0x34, 0x2E, 0x35, 0x36]
      ∧ numericEdit [0x24, 0x5A, 0x5A, 0x2E, 0x39, 0x39] 5 = [0x20, 0x20, 0x24, 0x2E, 0x30, 0x35]
      ∧ numericEdit [0x5A, 0x5A, 0x5A, 0x5A] 0 = [0x20, 0x20, 0x20, 0x20]
      ∧ numericEdit [0x54, 0x2D, 0x5A, 0x5A, 0x39] 42 = [0x54, 0x2D, 0x20, 0x34, 0x32]
      ∧ numericEdit [0x24, 0x5A, 0x5A, 0x39, 0x2E, 0x39, 0x39] 100000 = List.replicate 7 0x2A := by decide +kernel

/-- 4.5, worked dates, and R138's calendar at its end. -/
theorem test_worked_dates :
    Date.advance { year := 2024, month := 2, day := 27 } 3 = some { year := 2024, month := 3, day := 1 }
      ∧ Date.advance { year := 2025, month := 2, day := 27 } 3 = some { year := 2025, month := 3, day := 2 }
      ∧ Date.advance { year := 2023, month := 12, day := 30 } 5 = some { year := 2024, month := 1, day := 4 }
      ∧ Date.advance { year := 2099, month := 12, day := 20 } 14 = none
      ∧ dateText 1 { year := 2025, month := 3, day := 14 } = [0x32, 0x35, 0x2D, 0x30, 0x33, 0x2D, 0x31, 0x34] := by decide +kernel

/-- 4.6, worked barcodes: 2045210023515 and 2000000068268. -/
theorem test_worked_barcodes :
    barcodeDigits 4521 2351 = [2, 0, 4, 5, 2, 1, 0, 0, 2, 3, 5, 1, 5]
      ∧ barcodeDigits 0 6826 = [2, 0, 0, 0, 0, 0, 0, 0, 6, 8, 2, 6, 8] := by decide +kernel

/-- 2.9 (R44): " 1.238" with one more place, " 38 g", and −1,860 g as " -1.860". -/
theorem test_weight_texts :
    shownText 1238000 = [0x20, 0x20, 0x31, 0x2E, 0x32, 0x33, 0x38]
      ∧ shownText (-1860000) = [0x20, 0x2D, 0x31, 0x2E, 0x38, 0x36, 0x30]
      ∧ shownText 15045000 = [0x20, 0x31, 0x35, 0x2E, 0x30, 0x34, 0x35] := by decide +kernel

/-- 6.2, worked allocation: with 97, 99, 1 and 2 in use and next ticket 97, the numbers taken are 98 and 3. -/
theorem test_worked_allocation :
    let t := TU.mark 97 true (TU.mark 99 true (TU.mark 1 true (TU.mark 2 true { TicketUnit.reset with next := 97 })))
    TU.number t = 98 ∧ TU.number (TU.allocate t) = 3 := by decide +kernel

/-- 1.8, the overload and underload limits at their last good and first bad counts. -/
theorem test_worked_limits :
    let at_ (d : Int) := WE.complete cal { channel with average := 119930 + d }
    let state (d : Int) := (WE.weigh cfg .motion (at_ d)).state
    state 8024000 ≠ .over ∧ state 8024001 = .over ∧ state (-21333) ≠ .under ∧ state (-21334) = .under := by decide +kernel

/-! ### One command each -/

/-- R46: of two KEY frames in one run of bytes each is an event of its own, so each gives a display; the second replaces the first that
waits behind the frame being sent (R176). -/
theorem test_each_frame_of_a_run_is_an_event :
    let s := counter.modLink 3 (fun k => { k with out := [.list []] })
    let keys := frameBytes 0x11 [1, 7] ++ frameBytes 0x11 [2, 8]
    after (.badFrame 3 keys) s (fun t => ((t.dialogue 3).buffer == [1, 2]) && ((t.link 3).lastKey == some 8)
        && (t.link 3).out.length == 2) = true
      ∧ after (.badFrame 3 keys) counter (fun t => (t.link 3).out.length == 2) = true := by decide +kernel

/-- 1.5, arrival 5: 780,120 on the ring of arrival 4 gives MOTION, a gross of 309,465 mg and 310 g shown. -/
theorem test_sample_of_1_5 :
    after (.sample 3 780120#24 5) (chan (fun ch => { ch with
        ring := [119930, 119932, 119929, 119931], average := 119931, gross := 2, net := 2, shown := some 0 }) counter)
      (fun t => (t.channel 3).average == 284978 && (t.channel 3).stable == 3 && (t.channel 3).state == .motion
        && (t.channel 3).gross == 309465 && (t.channel 3).shown == some 310000) = true := by decide +kernel

/-- 2.6: the ham of 1,238 g is priced at 2,351 cents; loose, its record is written and its label queued. -/
theorem test_print_of_the_ham :
    after (.keyPrint 3 7) (dlg (fun d => { d with selection := some ham }) counter)
      (fun t => t.dt.acc.grand.amount == 2351 && (t.printer 0).queue.length == 1 && t.jw.written == 1) = true := by
  decide +kernel

/-- R165 and R166: a sweep takes the one request there is, ISSUE_TICKET; its answer names ticket 1, one in the line. -/
theorem test_sweep_serves_a_request :
    after .sweep (asks .urgent [13] counter) (fun t =>
      t.mem.num 28 4 == 1 && t.mem.num 32 4 == 1 && t.mem.num (1024 + 40) 4 == 1 && t.mem.num (1024 + 44) 4 == 1
        && t.lu.sweep == none && t.tu.line.length == 1) = true := by decide +kernel

/-- R104 and 9.6: PAPER_OUT writes record 1 at the base of the journal, its sequence number in bytes 4 to 7, and the `written` word. -/
theorem test_paper_out_writes_a_record :
    after .paperOut counter (fun t => t.jw.written == 1 && t.mem.num 72 4 == 1 && t.mem.num 4100 4 == 1) = true := by
  decide +kernel

/-- R138: the last second of 2099-12-31 is followed by 0 s of the same date, that of 2024-02-28 by 2024-02-29. -/
theorem test_clock_over_midnight :
    Stamp.tick { date := { year := 2099, month := 12, day := 31 }, time := 86399 }
        = { date := { year := 2099, month := 12, day := 31 }, time := 0 }
      ∧ Stamp.tick { date := { year := 2024, month := 2, day := 28 }, time := 86399 }
        = { date := { year := 2024, month := 2, day := 29 }, time := 0 } := by decide +kernel

/-! ### Witnesses: the machine as a whole, registers -/

/-- A counter with a PAPER_OUT waiting. -/
def waits : State := { counter with pending := [.paperOut] }

theorem witness_StepRunsTheFrontCommand : waits.pending = .paperOut :: [] ∧ counter.pending = [] := by decide +kernel

theorem witness_EveryStepKeepsTheMemoryForm : waits.mem.wf = true ∧ ∃ t, step waits = .next t ∧ (t.mem != waits.mem) = true :=
  ⟨by decide +kernel, of_after (c := .paperOut) (s := { waits with pending := [] }) (by decide +kernel)⟩

theorem witness_WritesLieInsideTheWindow :
    ∃ t, step waits = .next t ∧ (!inWindow waits.window 65536 && !inWindow t.window 65536) = true :=
  of_after (c := .paperOut) (s := { waits with pending := [] }) (by decide +kernel)

theorem witness_EveryStepKeepsTheListBounds : listBounds waits ∧ ∃ t, step waits = .next t ∧ (t.jw.written == 1) = true := by
  have a : ∀ st : Station, (waits.dialogue st).buffer.length ≤ 6 ∧ (waits.channel st).ring.length ≤ 16
      ∧ ∀ c ∈ (waits.channel st).settings, c.filterLen ≤ 16 := by decide +kernel
  refine ⟨⟨fun st => ⟨(a st).1, (a st).2.1, fun c h => (a st).2.2 c h⟩, by decide +kernel, by decide +kernel, by decide +kernel,
      by decide +kernel, ?_, by decide +kernel, by decide +kernel⟩,
    of_after (c := .paperOut) (s := { waits with pending := [] }) (by decide +kernel)⟩
  intro i o h
  have none_ : ∀ i : SlotNo, waits.order i = none := by decide +kernel
  rw [none_ i] at h
  cases h

/-- A counter whose RESET pin is held. -/
def pinHeld : State := { counter with resetPin := true }

theorem witness_ResetReturnsThePart : counter.resetPin = false ∧ pinHeld.resetPin = true := by decide +kernel

/-- A counter with one record held. -/
def holding : State := { counter with jw := { counter.jw with hold := [.opDone { lane := .urgent, number := 0 } 6 .done none] } }

/-- PRICE_FAULT set. -/
def priceFault (s : State) : State := { s with pu := { s.pu with fault := true } }

theorem witness_ControlFollowsItsTable :
    (State.reset.resetPin = false ∧ State.reset.part = .halted)
      ∧ ({ State.reset with part := .starting } : State).part = .starting ∧ (counter.resetPin = false ∧ counter.part = .running)
      ∧ ({ State.reset with part := .faulted } : State).part = .faulted
      ∧ namedControlCode 0 = false ∧ namedControlCode 5 = false ∧ namedControlCode 0xFFFFFFFF = false
      ∧ counter.dt.day ≠ .closed ∧ ((onDay .closed holding).dt.day = .closed ∧ (onDay .closed holding).jw.hold ≠ [])
      ∧ ((onDay .closed counter).dt.day = .closed ∧ (onDay .closed counter).jw.hold = [])
      ∧ ((onDay .closed (priceFault counter)).dt.day = .closed ∧ (onDay .closed (priceFault counter)).jw.hold = [] ∧ (priceFault counter).pu.fault = true) := by
  decide +kernel

/-- R61 and R158: a halt that clears a set PRICE_FAULT sets PRICE; one that finds it clear sets no flag. -/
theorem test_halt_that_clears_a_price_fault_sets_price :
    after .halt (onDay .closed (priceFault counter)) (fun t => t.notice == 0x40#8 && !t.pu.fault && t.part == .halted) = true
      ∧ after .halt (onDay .closed counter) (fun t => t.notice == 0#8 && t.part == .halted) = true := by decide +kernel

/-- A counter with the URGENT lane faulted and consistent, and its sweep as given. -/
def faultedLane (w : Option Sweep) : State :=
  { counter with lu := { counter.lu with urgent := { counter.lu.urgent with fault := true }, sweep := w } }

theorem witness_RearmClearsTheConsistentLanes :
    (∀ w ∈ [none, some Sweep.start], (faultedLane w).resetPin = false ∧ (faultedLane w).part = .running
        ∧ (((faultedLane w).lane .urgent).fault && LU.consistent .urgent (faultedLane w)) = true)
      ∧ ((counter.lane .urgent).fault || (counter.lane .routine).fault) = false := by decide +kernel

/-- Words in counter memory. -/
def words (ws : List (Nat × Nat)) (s : State) : State := ws.foldl (fun s w => s.hostWrite w.1 (leBytes 4 w.2)) s

/-- The part in STARTING with the directory as it now stands in counter memory read at its START. -/
def started (s : State) : State := { s with directory := readDirectory s.mem }

/-- A directory that passes every check, with the words given in place of its own. -/
def starting (ws : List (Nat × Nat)) : State :=
  started (words (([(0, 0x30344345), (4, 1), (8, 0), (12, 65536), (16, 1024), (20, 8), (40, 2048), (44, 16), (64, 4096), (68, 64), (80, 8),
    (84, 0x20000), (88, 0x30000), (104, 0x10000), (108, 8), (112, 0x12000), (120, 2)] : List (Nat × Nat)) ++ ws)
    { State.reset with part := .starting })

/-- The conditions of the seven checks of R155, in order, as StartFaultsAtTheFirstFailingCheck states them. -/
def checks (d : Directory) : List Bool :=
  [decide (d.signature = [0x45, 0x43, 0x34, 0x30]), decide (d.version = 1),
   decide (d.windowLow % 64 = 0 ∧ d.windowHigh % 64 = 0 ∧ d.windowLow < d.windowHigh ∧ d.windowHigh ≤ 262144),
   decide (d.urgentCapacity ∈ [4, 8, 16, 32, 64] ∧ d.routineCapacity ∈ [4, 8, 16, 32, 64]
      ∧ d.journalCapacity ∈ [32, 64, 128, 256, 512, 1024]),
   decide ((d.urgentBase % 64 = 0 ∧ d.routineBase % 64 = 0 ∧ d.journalBase % 64 = 0 ∧ d.settingsBase % 64 = 0)
      ∧ d.urgentBase + 64 * d.urgentCapacity ≤ 262144 ∧ d.routineBase + 64 * d.routineCapacity ≤ 262144
      ∧ d.journalBase + 64 * d.journalCapacity ≤ 262144 ∧ d.settingsBase + 512 ≤ 262144),
   decide (d.regions.Pairwise (fun x y => x.overlaps y = false)),
   [(d.urgentBase, 64 * d.urgentCapacity), (d.routineBase, 64 * d.routineCapacity), (d.journalBase, 64 * d.journalCapacity),
    (28, 8), (52, 8), (72, 4)].all (fun r => decide (d.windowLow ≤ r.1 ∧ r.1 + r.2 ≤ d.windowHigh))]

/-- One state for each check that fails first: a wrong signature, version 2, a window that ends at 65,537, a capacity of 9, a base at
1,025, the ROUTINE ring on the URGENT one, a window above the directory. -/
theorem witness_StartFaultsAtTheFirstFailingCheck :
    (starting []).resetPin = false ∧ (starting []).part = .starting
      ∧ (checks ((starting [(0, 7)]).directory)).take 1 = [false]
      ∧ (checks ((starting [(4, 2)]).directory)).take 2 = [true, false]
      ∧ (checks ((starting [(12, 65537)]).directory)).take 3 = [true, true, false]
      ∧ (checks ((starting [(20, 9)]).directory)).take 4 = [true, true, true, false]
      ∧ (checks ((starting [(16, 1025)]).directory)).take 5 = [true, true, true, true, false]
      ∧ (checks ((starting [(40, 1024)]).directory)).take 6 = [true, true, true, true, true, false]
      ∧ checks ((starting [(8, 64)]).directory) = [true, true, true, true, true, true, false] := by decide +kernel

/-- The settings record of 1.5 as bytes, `first` being its flags byte and `d1` its first division. -/
def settingsBytes (first d1 : Nat) : List Byte :=
  let b := (leBytes 1 first ++ leBytes 1 7 ++ leBytes 1 0 ++ leBytes 1 1 ++ leBytes 4 15000000 ++ leBytes 4 6000000 ++ leBytes 4 d1
    ++ leBytes 4 5000 ++ leBytes 4 120000 ++ leBytes 2 15 ++ leBytes 2 8 ++ leBytes 1 4 ++ leBytes 1 0 ++ leBytes 2 40
    ++ leBytes 2 3 ++ leBytes 2 10 ++ leBytes 2 300 ++ zeros 24).take 62
  b ++ leBytes 2 (crc16 b).toNat

/-- A state with the settings record of station 3 in counter memory. -/
def withRecord (first d1 : Nat) (s : State) : State := s.hostWrite (0x12000 + 64 * 3) (settingsBytes first d1)

theorem witness_StartingEndsInRunning :
    ∀ bank ∈ [0, 1, 2], let s := started (withRecord 1 2000 (starting [(92, bank), (76, 0xFFFFFFFF)]))
    s.part = .starting ∧ s.resetPin = false ∧ s.directory.check = .none ∧ s.directory.settingsBase = 0x12000
      ∧ s.directory.startBank = bank ∧ s.mem.wf = true
      ∧ (checkSettings (readSettings s.mem (0x12000 + 64 * 3))).isOk = true
      ∧ (checkSettings (readSettings s.mem 0x12000)).isOk = false := by decide +kernel

/-- The counter with a sweep as given and its sweep timer running. -/
def swept (w : Option Sweep) : State := { counter with lu := { counter.lu with sweep := w, timerOn := true } }

theorem witness_WakesBeginASweep :
    ((swept none).running = true ∧ (swept none).lu.sweep = none ∧ (swept none).lu.timerOn = true)
      ∧ ((swept (some Sweep.start)).running = true ∧ (swept (some Sweep.start)).lu.sweep = some Sweep.start)
      ∧ State.reset.running = false ∧ counter.lu.timerOn = false
      ∧ namedWriteOffset 0x00 = false ∧ namedWriteOffset 0x14 = false := by decide +kernel

theorem witness_NoticeWritesSteerTheLines : counter.resetPin = false := by decide +kernel

/-! ### Witnesses: sweeps and requests -/

/-- A sweep that has still to make its steps 1 and 2, with a record held or a close paused before the order of slot 0. -/
def opensWith (s : State) : State := { s with lu := { s.lu with sweep := some Sweep.start } }

/-- Two ROUTINE requests posted, with a burst of one. -/
def burstOfOne : State :=
  let s := (asks .routine [13] counter).hostWrite (40 + 8) (leBytes 4 2)
  { s.hostWrite (2048 + 64) (leBytes 4 13) with lu := { s.lu with routineBurst := 1 } }

theorem witness_SweepMakesItsSteps :
    ((swept (some Sweep.start)).running = true ∧ (swept (some Sweep.start)).lu.sweep = some Sweep.start
        ∧ (swept (some Sweep.start)).jw.hold = [] ∧ (∀ j ∈ (swept (some Sweep.start)).dt.close, j.forcing ≠ .paused)
        ∧ LU.hasNone .urgent (swept (some Sweep.start)) = true ∧ LU.hasNone .routine (swept (some Sweep.start)) = true)
      ∧ counter.lu.sweep = none
      ∧ (let s := opensWith holding
         s.running = true ∧ s.lu.sweep = some Sweep.start ∧ s.jw.hold ≠ [] ∧ (∀ j ∈ s.dt.close, j.forcing ≠ .paused)
           ∧ JW.hasRoom 0 { s with jw := { s.jw with hold := [] } } = true) := by decide +kernel

theorem witness_SweepMakesItsSteps_resumes :
    let s := opensWith { serving order118 counter with
      dt := { counter.dt with day := .forced, close := some { request := { lane := .urgent, number := 7 }, area := 64512, deadline := none, forcing := .paused } } }
    (s.running = true ∧ s.lu.sweep = some Sweep.start ∧ s.jw.hold = [] ∧ s.dt.day = .forced ∧ (s.order 0).isSome = true)
      ∧ ∃ u, exec .forcedVoid { s with dt := { s.dt with close := s.dt.close.map (fun j => { j with forcing := .active }) } } = .next u
        ∧ (u.order 0).isNone = true :=
  ⟨by decide +kernel, of_after (by decide +kernel)⟩

theorem witness_SweepMakesItsSteps_takes :
    (∃ u, takenInTurn [.urgent] (asks .urgent [13] counter) u ∧ (LU.hasNone .urgent u && LU.hasNone .routine u
        && u.lu.sweep == some { opened := true, routineTaken := 0 }) = true)
      ∧ ∃ u, takenInTurn [.routine] burstOfOne u ∧ (LU.hasRequest .routine u && u.lu.routineBurst == 1
        && u.lu.sweep == some { opened := true, routineTaken := 1 }) = true := by
  constructor
  · obtain ⟨u, h, p⟩ := of_after (c := kindCommand (LU.kindAt .urgent (asks .urgent [13] counter))) (s := asks .urgent [13] counter)
      (p := fun u => LU.hasNone .urgent u && LU.hasNone .routine u && u.lu.sweep == some { opened := true, routineTaken := 0 })
      (by decide +kernel)
    exact ⟨u, ⟨by decide +kernel, u, h, rfl⟩, p⟩
  · obtain ⟨u, h, p⟩ := of_after (c := kindCommand (LU.kindAt .routine burstOfOne)) (s := burstOfOne)
      (p := fun u => LU.hasRequest .routine u && u.lu.routineBurst == 1 && u.lu.sweep == some { opened := true, routineTaken := 1 })
      (by decide +kernel)
    exact ⟨u, ⟨by decide +kernel, u, h, rfl⟩, p⟩

/-- The first hypotheses of every statement about a request. -/
def served (ln : Lane) (k : Nat) (s : State) : Bool :=
  LU.takes ln (fun n => n == k) s && LU.placed ln s

theorem witness_RequestsAreTakenAndAnswered :
    (∀ ln ∈ [Lane.urgent, Lane.routine], LU.takes ln (fun _ => true) (asks ln [13] counter) = true
        ∧ LU.placed ln (asks ln [13] counter) = true) := by decide +kernel

/-- Four records held: no place is left for a request that holds one. -/
def heldFour (s : State) : State :=
  { s with jw := { s.jw with hold := List.replicate 4 (.opDone { lane := .urgent, number := 0 } 6 .done none) } }

theorem witness_RefusedAtTheLaneChangesNothingElse :
    (∀ k ∈ [0, 20], LU.kindAt .urgent (asks .urgent [k] counter) = k ∧ LU.takes .urgent (fun _ => true) (asks .urgent [k] counter) = true
        ∧ LU.placed .urgent (asks .urgent [k] counter) = true)
      ∧ (served .routine 8 (asks .routine [8, 8] counter) = true ∧ firstBadParam .routine (asks .routine [8, 8] counter) = 1)
      ∧ (served .urgent 4 (asks .urgent [4, 20250314, 86400] counter) = true
          ∧ firstBadParam .urgent (asks .urgent [4, 20250314, 86400] counter) = 2)
      ∧ (served .urgent 7 (asks .urgent [7] (heldFour counter)) = true
          ∧ firstBadParam .urgent (asks .urgent [7] (heldFour counter)) = 0
          ∧ 0 < placesOf (LU.kindAt .urgent (asks .urgent [7] (heldFour counter)))
          ∧ 4 < (asks .urgent [7] (heldFour counter)).jw.hold.length + JW.placesInFlight (asks .urgent [7] (heldFour counter))
              + placesOf (LU.kindAt .urgent (asks .urgent [7] (heldFour counter)))) := by decide +kernel

/-- The last second a request may give. -/
def opens : List Nat := [1, 20991231, 86399]

/-- Requests with a parameter one past its range, for the clauses about BAD_PARAM: their kind, lane words and the index that fails. -/
theorem witness_badParamsAnswered :
    ∀ x ∈ [([4, 20250229, 0], 1), ([4, 20250314, 86400], 2), ([5, 64513], 1), ([6, 2], 1), ([9, 8, 0], 1), ([9, 7, 4], 2), ([10, 8], 1),
        ([11, 0, 0], 1), ([11, 1000000, 0], 1), ([11, 1, 2], 2), ([12, 2], 1), ([18, 0], 1), ([18, 10000], 1), ([19, 12], 1)],
      let s := asks .urgent x.1 counter
      served .urgent (x.1.headD 0) s = true ∧ firstBadParam .urgent s = x.2 ∧ firstBadParam .urgent s ≠ 0 := by decide +kernel

/-- The hypotheses of OpenDayOpensTheDay that its clauses share. -/
def opening (s : State) : Bool :=
  served .urgent 1 s && decide (firstBadParam .urgent s = 0) && JW.reservationMet 1 s && decide (s.pu.active = some .a)
    && decide (256 ≤ PU.base s.pu .a)

theorem witness_OpenDayOpensTheDay :
    (opening (asks .urgent opens counter) = true ∧ (asks .urgent opens counter).dt.day ≠ .closed)
      ∧ (let s := asks .urgent opens (onDay .closed { counter with pu := { counter.pu with crc := 0 } })
         opening s = true ∧ s.dt.day = .closed ∧ (PU.checkActive s).2 = some { reason := .crc, index := 0, field := 0 })
      ∧ (let s := asks .urgent opens (onDay .closed counter)
         opening s = true ∧ s.dt.day = .closed ∧ (PU.checkActive s).2 = none ∧ JW.hasRoom 1 s = true
           ∧ JW.apart .urgent s = true) := by decide +kernel

/-- The hypothesis about the active bank, for the states above. -/
theorem witness_OpenDayOpensTheDay_bank (k : Bank) : (asks .urgent opens counter).pu.active = some k →
    256 ≤ PU.base (asks .urgent opens counter).pu k := by
  cases k <;> decide +kernel

/-- A CLOSE_DAY with the longest deadline and an area at the end of the window. -/
def closes : List Nat := [2, 240, 64512]

/-- The hypotheses of the statements about CLOSE_DAY that their clauses share. -/
def closing (s : State) : Bool :=
  served .urgent 2 s && decide (firstBadParam .urgent s = 0) && JW.reservationMet 2 s

/-- One ticket in the line. -/
def lined (s : State) : State := { s with tu := { TU.mark 42 true s.tu with line := [entry42] } }

/-- The close goes on with slot `i` freed, as a Bool. -/
def goes (i : SlotNo) (s : State) : Bool :=
  decide (s.dt.close = none ∨ s.tu.line ≠ [] ∨ ∃ k, k ≠ i ∧ (s.order k).isSome = true)

/-- Slot `i` freed completes the close `j`, as a Bool. -/
def ends (i : SlotNo) (j : CloseJob) (s : State) : Bool :=
  decide ((s.dt.day = .waiting ∨ s.dt.day = .forced) ∧ s.dt.close = some j ∧ s.tu.line = [] ∧ (∀ k, k ≠ i → s.order k = none)
    ∧ MP.areaGood s j.area = true)

theorem goes_iff (i : SlotNo) (s : State) : goes i s = true ↔ goesOn i s := decide_eq_true_iff

theorem ends_iff (i : SlotNo) (j : CloseJob) (s : State) : ends i j s = true ↔ endsTheClose i j s := decide_eq_true_iff

theorem witness_CloseDayStartsTheClose :
    (∀ d ∈ [DayState.closed, .waiting, .forced], closing (asks .urgent closes (onDay d counter)) = true
        ∧ (asks .urgent closes (onDay d counter)).dt.day = d)
      ∧ (let s := asks .urgent [2, 1, 64512] (lined counter)
         closing s = true ∧ s.dt.day = .opened ∧ 0 < LU.param .urgent 1 s ∧ DT.counterEmpty s = false)
      ∧ (let s := asks .urgent [2, 0, 64512] (lined counter)
         closing s = true ∧ s.dt.day = .opened ∧ LU.param .urgent 1 s = 0)
      ∧ (let s := asks .urgent [2, 0, 64512] (used 60 (serving order118 counter))
         closing s = true ∧ s.tu.line = [] ∧ DT.counterEmpty s = false ∧ JW.lacksRoom 5 s = true)
      ∧ (∀ more ∈ [none, some order118], let s := asks .urgent [2, 0, 64512] (used 59 ((serving order118 counter).setOrder 31 more))
         closing s = true ∧ s.tu.line = [] ∧ s.order 0 = some order118 ∧ (∀ k, k < (0 : SlotNo) → s.order k = none)
           ∧ JW.hasRoom 5 s = true ∧ JW.apart .urgent s = true ∧ (more = none ↔ ∀ k, k ≠ (0 : SlotNo) → s.order k = none)) := by
  decide +kernel

theorem witness_CloseOfAnEmptyCounterCompletes :
    (∀ d ∈ [0, 240], let s := asks .urgent [2, d, 64512] (used 62 counter)
     let f := asks .urgent [2, d, 64512] (used 64 counter)
     (closing s = true ∧ s.dt.day = .opened ∧ LU.param .urgent 1 s = d ∧ DT.counterEmpty s = true ∧ JW.hasRoom 2 s = true
         ∧ JW.apart .urgent s = true)
       ∧ (closing f = true ∧ f.dt.day = .opened ∧ DT.counterEmpty f = true ∧ JW.lacksRoom 1 f = true)) := by decide +kernel

/-- A close job, with its deadline timer and its forcing. -/
def job (deadline : Option Nat) (f : Forcing) : CloseJob :=
  { request := { lane := .urgent, number := 7 }, area := 64512, deadline := deadline, forcing := f }

/-- A close in flight. -/
def inClose (d : DayState) (j : CloseJob) (s : State) : State := { s with dt := { s.dt with day := d, close := some j } }

theorem witness_CancelCloseReturnsTheDayToOpen :
    (∀ d ∈ [DayState.closed, .opened], served .urgent 3 (asks .urgent [3] (onDay d counter)) = true
        ∧ (asks .urgent [3] (onDay d counter)).dt.day = d)
      ∧ (∀ d ∈ [DayState.waiting, .forced],
          let s := asks .urgent [3] (inClose d (job none .active) counter)
          served .urgent 3 s = true ∧ s.dt.day = d ∧ s.dt.close = some (job none .active) ∧ JW.hasRoom 1 s = true
            ∧ JW.apart .urgent s = true) := by decide +kernel

theorem witness_ClockAndTotalsRequests :
    (∀ ws ∈ [[4, 20000101, 0], [4, 20991231, 86399]],
        served .urgent 4 (asks .urgent ws counter) = true ∧ firstBadParam .urgent (asks .urgent ws counter) = 0)
      ∧ (∀ a ∈ [5120 + 4096, 64512],
        served .routine 5 (asks .routine [5, a] counter) = true ∧ firstBadParam .routine (asks .routine [5, a] counter) = 0) := by
  decide +kernel

/-- A validation job. -/
def priceJob (k : JobType) (crc : Word) : PriceJob := { type := k, bank := .a, count := 1, crc := crc }

/-- A running validation job. -/
def validating (j : PriceJob) (s : State) : State :=
  { s with pu := { s.pu with job := some j, jobRequest := some { lane := .urgent, number := 7 } } }

theorem witness_PriceRequestsStartAJob :
    (∀ b ∈ [0, 1], let s := asks .urgent [6, b, 1, 9] counter
        served .urgent 6 s = true ∧ LU.param .urgent 1 s ≤ 1 ∧ JW.reservationMet 2 s = true ∧ s.pu.job = none)
      ∧ (let s := asks .urgent [6, 1] (validating (priceJob .check 0) counter)
         served .urgent 6 s = true ∧ JW.reservationMet 2 s = true ∧ s.pu.job.isSome = true)
      ∧ (let s := asks .urgent [7] counter
         served .urgent 7 s = true ∧ JW.reservationMet 1 s = true ∧ s.pu.job = none ∧ s.pu.active = some .a)
      ∧ (let s := asks .urgent [7] { counter with pu := { counter.pu with active := none } }
         served .urgent 7 s = true ∧ s.pu.job = none ∧ s.pu.active = none)
      ∧ (let s := asks .urgent [7] (validating (priceJob .check 0) counter)
         served .urgent 7 s = true ∧ JW.reservationMet 1 s = true ∧ s.pu.job.isSome = true) := by decide +kernel

/-- A state asked to reload station 3. -/
def reloads (s : State) : State := asks .urgent [8, 3] s

/-- The hypotheses of ReloadFollowsTheRecord that its clauses share. -/
def reloading (s : State) : Bool :=
  served .urgent 8 s && decide (LU.param .urgent 1 s = 3 ∧ 256 ≤ s.settingsBase ∧ s.settingsBase + 512 ≤ Config.memorySize)

/-- What a settings record gives a clause: whether it is valid, ENABLED, and has the calibration held. -/
def recordGives (s : State) : Option (Bool × Bool) :=
  match SD.record 3 s with
  | .ok c => some (c.enabled, decide ((s.channel 3).heldCal = some c.cal))
  | .error _ => none

theorem witness_ReloadFollowsTheRecord :
    (let s := reloads (withRecord 1 1000 counter)
     reloading s = true ∧ recordGives s = some (true, false) ∧ (s.channel 3).heldCal = some cal ∧ s.service = false)
      ∧ (∀ x ∈ [LinkState.up, .down], let s := reloads (withRecord 1 2000 (counter.modLink 3 (fun k => { k with state := x })))
         reloading s = true ∧ recordGives s = some (true, true))
      ∧ (let s := reloads (withRecord 0 2000 counter)
         reloading s = true ∧ recordGives s = some (false, true) ∧ (s.channel 3).enabled = true)
      ∧ (let s := reloads (withRecord 0 2000 (chan (fun ch => { ch with enabled := false, heldCal := none }) counter))
         reloading s = true ∧ (recordGives s).map Prod.fst = some false ∧ (s.channel 3).enabled = false
           ∧ (s.channel 3).heldCal = none)
      ∧ (let s := reloads (withRecord 1 1000 (counter.setService true))
         reloading s = true ∧ (recordGives s).isSome = true ∧ s.service = true)
      ∧ (reloading (reloads counter) = true ∧ recordGives (reloads counter) = none) := by decide +kernel

/-- The hypotheses of StationModeFollowsItsTable that its clauses share, for an action. -/
def acting (n : Nat) (s : State) : Bool :=
  served .urgent 9 s && decide (LU.param .urgent 1 s = 3 ∧ LU.param .urgent 2 s = n)

theorem witness_StationModeFollowsItsTable :
    (∀ n ∈ [0, 1, 2, 3], acting n (asks .urgent [9, 3, n] counter) = true)
      ∧ ((counter.channel 3).load = .loaded ∧ (counter.channel 3).enabled = true)
      ∧ (let s := asks .urgent [9, 3, 0] (chan (fun ch => { ch with load := .failed, enabled := false }) counter)
         acting 0 s = true ∧ (s.channel 3).load ≠ .loaded)
      ∧ (let s := asks .urgent [9, 3, 0] (chan (fun ch => { ch with enabled := false }) counter)
         acting 0 s = true ∧ (s.channel 3).load = .loaded ∧ (s.channel 3).enabled = false ∧ (s.channel 3).settings = some cfg)
      ∧ (let s := asks .urgent [9, 3, 1] (chan (fun ch => { ch with enabled := false }) counter)
         acting 1 s = true ∧ (s.channel 3).enabled = false) := by decide +kernel

theorem witness_ReadsAnswerAndChangeNothing :
    (∀ n ∈ [0, 7], served .urgent 10 (asks .urgent [10, n] counter) = true ∧ LU.param .urgent 1 (asks .urgent [10, n] counter) = n)
      ∧ (let s := asks .urgent [18, 118] (serving order118 counter)
         served .urgent 18 s = true ∧ firstBadParam .urgent s = 0 ∧ OT.withNumber s (LU.param .urgent 1 s) = some (0, order118))
      ∧ (let s := asks .urgent [18, 9999] counter
         served .urgent 18 s = true ∧ firstBadParam .urgent s = 0 ∧ OT.withNumber s (LU.param .urgent 1 s) = none)
      ∧ (∀ n ∈ [0, 8, 11], served .urgent 19 (asks .urgent [19, n] counter) = true
          ∧ LU.param .urgent 1 (asks .urgent [19, n] counter) = n) := by decide +kernel

/-! ### Witnesses: printers, tickets, orders -/

/-- The recent labels with one entry. -/
def recent (s : State) : State := { s with lc := { s.lc with recent := [label1] } }

/-- Jobs in the queue of printer 0. -/
def queued (n : Nat) (s : State) : State := s.modPrinter 0 (fun q => { q with queue := List.replicate n { label1 with serial := 2 } })

/-- The hypotheses of PrinterRequestsChangeTheirQueue for REPRINT that its clauses share. -/
def reprinting (s : State) : Bool :=
  served .urgent 11 s && decide (firstBadParam .urgent s = 0 ∧ LU.param .urgent 2 s = 0)

theorem witness_PrinterRequestsChangeTheirQueue :
    (let s := asks .urgent [11, 1, 0] (onDay .closed counter)
     reprinting s = true ∧ s.dt.day = .closed)
      ∧ (let s := asks .urgent [11, 999999, 0] counter
         reprinting s = true ∧ s.dt.day ≠ .closed ∧ s.lc.recent.find? (fun e => e.serial == LU.param .urgent 1 s) = none)
      ∧ (∀ n ∈ [0, 15, 16], let s := asks .urgent [11, 1, 0] (queued n (recent counter))
         reprinting s = true ∧ s.dt.day ≠ .closed ∧ s.lc.recent.find? (fun e => e.serial == LU.param .urgent 1 s) = some label1
           ∧ (s.printer 0).queue.length = n ∧ (s.printer 0).queue.any (fun j => j.serial == LU.param .urgent 1 s) = false
           ∧ (s.printer 1).queue.any (fun j => j.serial == LU.param .urgent 1 s) = false)
      ∧ (let s := asks .urgent [11, 1, 0] ((recent counter).modPrinter 0 (fun q => { q with queue := [label1] }))
         reprinting s = true ∧ s.lc.recent.find? (fun e => e.serial == LU.param .urgent 1 s) = some label1
           ∧ (s.printer 0).queue.any (fun j => j.serial == LU.param .urgent 1 s) = true)
      ∧ (∀ n ∈ [0, 1], let s := asks .urgent [12, n] counter
         served .urgent 12 s = true ∧ firstBadParam .urgent s = 0 ∧ LU.param .urgent 1 s = n) := by decide +kernel

/-- A line of `n` entries. -/
def lineOf (n : Nat) (s : State) : State := { s with tu := { s.tu with line := List.replicate n entry42 } }

theorem witness_LineRequestsChangeTheLine :
    (served .urgent 13 (asks .urgent [13] (onDay .waiting counter)) = true ∧ (onDay .waiting counter).dt.day ≠ .opened)
      ∧ (∀ n ∈ [0, 63, 64], served .urgent 13 (asks .urgent [13] (lineOf n counter)) = true
          ∧ (asks .urgent [13] (lineOf n counter)).dt.day = .opened ∧ (asks .urgent [13] (lineOf n counter)).tu.line.length = n)
      ∧ (let s := asks .urgent [14, 0, 99] counter
         served .urgent 14 s = true ∧ firstBadParam .urgent s = 0
           ∧ s.tu.line.find? (fun e => e.ticket == LU.param .urgent 2 s) = none)
      ∧ (∀ n ∈ [0, 1], let s := asks .urgent [14, n, 42] (lined counter)
         served .urgent 14 s = true ∧ firstBadParam .urgent s = 0 ∧ LU.param .urgent 1 s = n
           ∧ s.tu.line.find? (fun e => e.ticket == LU.param .urgent 2 s) = some entry42 ∧ s.dt.close = none
           ∧ JW.hasRoom 5 s = true ∧ JW.apart .urgent s = true)
      ∧ (let s := asks .urgent [14, 1, 42] (used 59 (lined (inClose .waiting (job (some 0) .idle) counter)))
         served .urgent 14 s = true ∧ firstBadParam .urgent s = 0 ∧ LU.param .urgent 1 s = 1
           ∧ s.tu.line.find? (fun e => e.ticket == LU.param .urgent 2 s) = some entry42
           ∧ s.tu.line.filter (fun x => x.ticket != entry42.ticket) = [] ∧ s.dt.day = .waiting
           ∧ s.dt.close = some (job (some 0) .idle) ∧ OT.inUse s = [] ∧ MP.areaGood s 64512 = true ∧ JW.hasRoom 5 s = true
           ∧ JW.apart .urgent s = true) := by decide +kernel

/-- Every slot holding an order, but for those from `n` on. -/
def slotsTo (n : Nat) (s : State) : State :=
  { s with ot := { s.ot with slots := Vector.ofFn (fun i => if i.val < n then some { order118 with clerk := none } else none) } }

theorem witness_OpenOrderParksAHostOrder :
    (served .urgent 15 (asks .urgent [15] (onDay .forced counter)) = true ∧ (onDay .forced counter).dt.day ≠ .opened)
      ∧ (let s := asks .urgent [15] (slotsTo 32 counter)
         served .urgent 15 s = true ∧ s.dt.day = .opened ∧ ∀ i, (s.order i).isSome = true)
      ∧ (∀ n ∈ [(0 : SlotNo), 31], let s := asks .urgent [15] (slotsTo n.val counter)
         served .urgent 15 s = true ∧ s.dt.day = .opened ∧ s.order n = none ∧ ∀ j, j < n → (s.order j).isSome = true) := by
  decide +kernel

theorem witness_VoidOrderVoids :
    (let s := asks .urgent [16, 9999] counter
     served .urgent 16 s = true ∧ firstBadParam .urgent s = 0 ∧ OT.withNumber s (LU.param .urgent 1 s) = none)
      ∧ (∀ n ∈ [60, 64], let s := asks .urgent [16, 118] (used n (serving order118 counter))
         served .urgent 16 s = true ∧ firstBadParam .urgent s = 0 ∧ OT.withNumber s (LU.param .urgent 1 s) = some (0, order118)
           ∧ JW.lacksRoom 5 s = true)
      ∧ (let s := asks .urgent [16, 118] (serving order118 counter)
         served .urgent 16 s = true ∧ OT.withNumber s (LU.param .urgent 1 s) = some (0, order118) ∧ JW.hasRoom 5 s = true
           ∧ JW.apart .urgent s = true ∧ goes 0 s = true)
      ∧ (let s := asks .urgent [16, 118] (used 59 (serving order118 (inClose .waiting (job (some 0) .idle) counter)))
         served .urgent 16 s = true ∧ OT.withNumber s (LU.param .urgent 1 s) = some (0, order118) ∧ JW.hasRoom 5 s = true
           ∧ JW.apart .urgent s = true ∧ ends 0 (job (some 0) .idle) s = true) := by decide +kernel

/-- The order as a CALLED one, with its call record. -/
def called (s : State) : State :=
  { serving { order118 with state := .called } s with
    tu := { s.tu with calls := s.tu.calls.set 0 (some { timer := some 30, level := 4, entry := entry42 }) } }

theorem witness_ClerkOffSignsTheClerkOff :
    (∀ c ∈ [(0 : Fin 32), 31], let s := asks .urgent [17, c.val + 1] counter
     served .urgent 17 s = true ∧ LU.param .urgent 1 s = c.val + 1 ∧ (s.clerk c).slot = none)
      ∧ (let s := asks .urgent [17, 7] (serving order118 counter)
         served .urgent 17 s = true ∧ LU.param .urgent 1 s = 7 ∧ (s.clerk 6).slot = some 0 ∧ s.order 0 = some order118
           ∧ order118.state = .opened)
      ∧ (let s := asks .urgent [17, 7] (called counter)
         served .urgent 17 s = true ∧ (s.clerk 6).slot = some 0 ∧ s.order 0 = some { order118 with state := .called }
           ∧ order118.clerk = some 6 ∧ s.callRecord 0 = some { timer := some 30, level := 4, entry := entry42 }
           ∧ returnCause s = none)
      ∧ (∀ x ∈ [(onDay .forced (lineOf 63 (called counter)), LapseCause.close), (lineOf 64 (called counter), .lineFull)],
         let s := asks .urgent [17, 7] (used 59 x.1)
         served .urgent 17 s = true ∧ (s.clerk 6).slot = some 0 ∧ s.order 0 = some { order118 with state := .called }
           ∧ s.callRecord 0 = some { timer := some 30, level := 4, entry := entry42 } ∧ returnCause s = some x.2
           ∧ JW.hasRoom 5 s = true ∧ JW.apart .urgent s = true ∧ goes 0 s = true)
      ∧ returnCause (lineOf 63 (called counter)) = none := by decide +kernel

/-! ### Witnesses: completions and time -/

/-- The CRC-32 of bank A's one record. -/
def goodCrc : Word := crc32 hamBytes

theorem witness_SwitchCompletionSwitchesTheBank :
    let s := validating (priceJob .switch goodCrc) counter
    let f := validating (priceJob .switch 0) counter
    (s.running = true ∧ s.pu.job = some (priceJob .switch goodCrc) ∧ s.pu.jobRequest = some { lane := .urgent, number := 7 }
        ∧ PU.validate s.mem (PU.base s.pu .a) 1 goodCrc = none ∧ JW.hasRoom 2 s = true)
      ∧ (f.running = true ∧ f.pu.job = some (priceJob .switch 0)
        ∧ PU.validate f.mem (PU.base f.pu .a) 1 0 = some { reason := .crc, index := 0, field := 0 } ∧ JW.hasRoom 1 f = true) := by
  decide +kernel

theorem witness_CheckCompletionSettlesThePriceFault :
    let s := validating (priceJob .check goodCrc) counter
    let f := validating (priceJob .check 0) counter
    (s.running = true ∧ s.pu.job = some (priceJob .check goodCrc) ∧ s.pu.jobRequest = some { lane := .urgent, number := 7 }
        ∧ PU.validate s.mem (PU.base s.pu .a) 1 goodCrc = none ∧ JW.hasRoom 1 s = true)
      ∧ (f.running = true ∧ f.pu.job = some (priceJob .check 0)
        ∧ PU.validate f.mem (PU.base f.pu .a) 1 0 = some { reason := .crc, index := 0, field := 0 } ∧ JW.hasRoom 1 f = true) := by
  decide +kernel

/-- Station 3 told of a switch, with a selection. -/
def told (sel : Option PluRecord) : State := dlg (fun d => { d with relookup := true, selection := sel }) counter

/-- The bank's one record with markdown 91, one past its range. -/
def badRecord (s : State) : State := s.hostWrite (0x20000 + 18) [91]

theorem witness_ReLookupFollowsTheNewBank :
    (counter.running = true ∧ (counter.dialogue 3).relookup = false)
      ∧ (((told none).dialogue 3).relookup = true ∧ ((told none).dialogue 3).selection = none)
      ∧ ((told (some ham)).running = true ∧ ((told (some ham)).dialogue 3).selection = some ham
          ∧ PU.lookup (told (some ham)).mem (told (some ham)).pu 4521 = .found ham)
      ∧ (((told (some { ham with plu := 999999 })).dialogue 3).relookup = true
          ∧ PU.lookup (told (some { ham with plu := 999999 })).mem (told (some { ham with plu := 999999 })).pu 999999 = .absent)
      ∧ (let s := badRecord (told (some ham))
         s.running = true ∧ (s.dialogue 3).relookup = true ∧ (s.dialogue 3).selection = some ham
           ∧ PU.lookup s.mem s.pu 4521 = .invalid) := by
  decide +kernel

theorem witness_ClockTickAddsOneSecond : counter.resetPin = false := by decide +kernel

/-- The recall settings of a CALLED order. -/
def recalls (limit : Nat) : State :=
  let s := called counter
  { s with tu := { s.tu with settings := { s.tu.settings with recallLimit := limit, skipLimit := 3 } } }

theorem witness_CallsAreRecalledOrSkipped :
    (∀ n ∈ [0, 1], (recalls n).running = true
        ∧ (recalls n).callRecord 0 = some { timer := some 30, level := 4, entry := entry42 }
        ∧ (recalls n).order 0 = some { order118 with state := .called })
      ∧ order118.callCount ≤ (recalls 1).tu.settings.recallLimit
      ∧ ((recalls 0).tu.settings.recallLimit < order118.callCount ∧ (recalls 0).dt.day ≠ .forced
          ∧ entry42.skips + 1 ≠ (recalls 0).tu.settings.skipLimit ∧ (recalls 0).tu.line.length < 64)
      ∧ (SD.hears 3 9 counter = true ∧ OT.clerkAt counter 3 = none)
      ∧ (SD.hears 3 9 (clerked counter) = true ∧ OT.clerkAt (clerked counter) 3 ≠ none ∧ OT.orderAt (clerked counter) 3 = none)
      ∧ (SD.hears 3 9 (serving order118 counter) = true
          ∧ OT.orderAt (serving order118 counter) 3 = some (0, order118) ∧ order118.state ≠ .called)
      ∧ (SD.hears 3 9 (recalls 1) = true ∧ OT.orderAt (recalls 1) 3 = some (0, { order118 with state := .called })
          ∧ order118.clerk = some 6 ∧ ((recalls 1).clerk 6).station = some 3)
      ∧ (∀ x ∈ [(onDay .forced (lineOf 63 (recalls 0)), 0, LapseCause.close), (recalls 0, 2, .skipLimit), (lineOf 64 (recalls 0), 0, .lineFull)],
         let s := used 59 x.1
         s.running = true ∧ s.tu.settings.recallLimit < order118.callCount ∧ SD.hears 3 9 s = true
           ∧ OT.orderAt s 3 = some (0, { order118 with state := .called }) ∧ (s.callRecord 0).isSome = true
           ∧ skipCause { entry42 with skips := x.2.1 + 1 } s = some x.2.2 ∧ JW.hasRoom 5 s = true ∧ goes 0 s = true)
      ∧ skipCause { entry42 with skips := 2 } (lineOf 63 (recalls 0)) = none := by decide +kernel

theorem witness_DeadlineExpiryBeginsTheForcedStage :
    (∀ n ∈ [0, 600], let s := lined (inClose .waiting (job (some n) .idle) counter)
     s.running = true ∧ s.dt.day = .waiting ∧ s.dt.close = some (job (some n) .idle) ∧ (job (some n) .idle).deadline = some n)
      ∧ (let s := used 60 (serving order118 (inClose .waiting (job (some 0) .idle) counter))
         s.running = true ∧ s.dt.day = .waiting ∧ s.tu.line = [] ∧ OT.inUse s ≠ [] ∧ JW.lacksRoom 5 s = true)
      ∧ (let s := used 59 ((serving order118 (inClose .waiting (job (some 0) .idle) counter)).setOrder 31 (some order118))
         s.running = true ∧ s.dt.day = .waiting ∧ s.tu.line = [] ∧ s.order 0 = some order118
           ∧ (∀ k, k < (0 : SlotNo) → s.order k = none) ∧ (∃ k, k ≠ (0 : SlotNo) ∧ (s.order k).isSome = true) ∧ JW.hasRoom 5 s = true)
      ∧ (let s := used 62 (inClose .waiting (job (some 0) .idle) counter)
         s.running = true ∧ s.dt.day = .waiting ∧ s.tu.line = [] ∧ OT.inUse s = [] ∧ JW.hasRoom 2 s = true
           ∧ MP.areaGood s 64512 = true) := by decide +kernel

theorem witness_ForcedVoidTakesTheLowestSlot :
    (∀ n ∈ [60, 64], let s := used n (inClose .forced (job none .active) (slotsTo 1 counter))
     s.running = true ∧ s.dt.day = .forced ∧ s.dt.close = some (job none .active) ∧ (job none .active).forcing = .active
       ∧ s.order 0 = some { order118 with clerk := none } ∧ (∀ k, k < (0 : SlotNo) → s.order k = none) ∧ JW.lacksRoom 5 s = true)
      ∧ (let s := inClose .forced (job none .active) (slotsTo 2 counter)
         s.order 0 = some { order118 with clerk := none } ∧ goes 0 s = true ∧ JW.hasRoom 5 s = true)
      ∧ (let s := used 59 (inClose .forced (job none .active) (slotsTo 1 counter))
         s.running = true ∧ s.dt.day = .forced ∧ s.order 0 = some { order118 with clerk := none } ∧ JW.hasRoom 5 s = true
           ∧ ends 0 (job none .active) s = true)
      ∧ (let s := inClose .forced (job none .active) (counter.setOrder 31 (some order118))
         s.order 31 = some order118 ∧ ∀ k, k < (31 : SlotNo) → s.order k = none) := by decide +kernel

/-! ### Witnesses: printers, dispenser, links -/

/-- Printer 0 with its top SENT. -/
def printing (st : PrinterState) (stop : Option StopReason) : State :=
  counter.modPrinter 0 (fun q => { q with queue := [label1], topSent := true, state := st, stop := stop, timer := some 3 })

theorem witness_DoneAndReadyMoveTheQueue :
    (∀ p ∈ [(PrinterState.busy, none), (.stopped, some StopReason.noResponse), (.stopped, some .jam)],
        let s := printing p.1 p.2
        LK.delivers (printerLink 0) s = true ∧ (s.printer 0).queue = label1 :: [] ∧ label1.serial = (1#32).toNat
          ∧ (s.printer 0).topSent = true ∧ (s.printer 0).state = p.1 ∧ (s.printer 0).stop = p.2)
      ∧ (LK.delivers (printerLink 1) counter = true ∧ (counter.printer 1).topSent = false ∧ (counter.printer 1).state ≠ .stopped)
      ∧ (∀ top ∈ (counter.printer 1).queue.head?, top.serial ≠ (1#32).toNat) := by decide +kernel

theorem witness_FaultAndTimerStopThePrinter :
    JW.hasRoom 5 (printing .busy none) = true ∧ LK.delivers (printerLink 0) (printing .busy none) = true
      ∧ ((printing .busy none).printer 0).state ≠ .down ∧ (printing .busy none).running = true
      ∧ ((printing .busy none).printer 0).timer.isSome = true := by decide +kernel

theorem witness_DispenserFramesAreTaken :
    (LK.delivers dispenserLink counter = true ∧ (counter.link dispenserLink).lastTake ≠ some 5 ∧ JW.hasRoom 5 counter = true)
      ∧ (onDay .closed counter).dt.day ≠ .opened
      ∧ (∀ n ∈ [0, 63, 64], LK.delivers dispenserLink (lineOf n counter) = true ∧ (lineOf n counter).dt.day = .opened
          ∧ (lineOf n counter).tu.line.length = n)
      ∧ (∀ f ∈ [none, some (Frame.refuse .full)],
          let s := counter.modLink dispenserLink (fun k => { k with lastTake := some 5, lastTakeAnswer := f })
          LK.delivers dispenserLink s = true ∧ (s.link dispenserLink).lastTake = some 5
            ∧ (s.link dispenserLink).lastTakeAnswer = f) := by decide +kernel

/-- A counter with every link DOWN. -/
def linksDown : State := { counter with lk := Vector.replicate 12 Link.reset }

/-- A counter with every link in MISMATCH and nothing to send. -/
def mismatched : State := { counter with lk := Vector.replicate 12 { Link.reset with state := .mismatch, silence := some 300 } }

/-- A counter with `n` frames in every outgoing list. -/
def waiting (n : Nat) : State :=
  { counter with lk := Vector.ofFn (fun l => { counter.lk[l] with out := List.replicate n (.welcome l (expectedClass l) true) }) }

/-- R176 and R177: a restart keeps the frames that wait, the WELCOME and the full display joining behind them; an entry into MISMATCH empties
the list. -/
theorem test_a_restart_keeps_the_outgoing_list :
    after (.hello 3 1) (waiting 2) (fun t => (t.link 3).out.length == 4 && (t.link 3).state == .up) = true
      ∧ after (.hello 3 2) (waiting 2) (fun t => (t.link 3).out == [.welcome 3 .scaleHead false]) = true := by decide +kernel

theorem witness_HelloSettlesTheLinkState :
    (counter.running = true ∧ (counter.link 0).state = .up)
      ∧ ((waiting 5).running = true ∧ (∀ l : LinkNo, ((waiting 5).link l).state = .up ∧ ((waiting 5).link l).out.length = 5))
      ∧ ((waiting 7).running = true ∧ ((waiting 7).link 3).out.length = 7)
      ∧ (linksDown.running = true ∧ ∀ l : LinkNo, (linksDown.link l).state = .down ∧ (linksDown.link l).out = [])
      ∧ State.reset.running = false
      ∧ (mismatched.running = true ∧ (∀ l : LinkNo, (mismatched.link l).state = .mismatch ∧ (mismatched.link l).state ≠ .up
          ∧ (mismatched.link l).out = []))
      ∧ (∀ l : LinkNo, (0#8).toNat ≠ (expectedClass l).code)
      ∧ (JW.hasRoom 5 (used 59 counter) = true ∧ JW.hasRoom 5 (used 59 linksDown) = true
          ∧ (3 : LinkNo) = stationLink 3 ∧ (9 : LinkNo) = printerLink 1) := by decide +kernel

theorem witness_FramesOutsideUpOnlyRestartTheTimer :
    (counter.running = true ∧ (counter.link 11).state ≠ .down) ∧ (linksDown.running = true ∧ (linksDown.link 0).state = .down)
      ∧ (mismatched.running = true ∧ (mismatched.link (stationLink 3)).state = .mismatch ∧ Instr.keyVoid 3 9 ∈ keyCommands 3 9 0)
      ∧ (linksDown.link dispenserLink).state = .down := by decide +kernel

theorem witness_SilenceTakesTheLinkDown :
    (∀ l ∈ [displayLink, stationLink 0, stationLink 7, printerLink 0, printerLink 1, dispenserLink],
        counter.running = true ∧ (counter.link l).silence = some 300 ∧ (counter.link l).state = .up)
      ∧ (∀ p : PrinterNo, (counter.printer p).state ≠ .down)
      ∧ (let s := counter.modLink 3 (fun k => { k with state := .mismatch })
         s.running = true ∧ (s.link 3).silence = some 300 ∧ (s.link 3).state ≠ .up) := by decide +kernel

theorem witness_BadFramesLeaveNoTrace :
    (∀ bs ∈ [[], [0x41], [0xA5, 0x01], [0xA5, 0x01, 0x03, 0x00, 0x00, 0x00]],
        counter.running = true ∧ (receive (counter.link 0).rx bs).1 = [])
      ∧ State.reset.running = false := by decide +kernel

theorem witness_ReceiverReadsWhatAFrameSpells :
    (∀ n ∈ [1, 250], let payload : List Byte := List.replicate n 0xA5
        1 ≤ payload.length ∧ payload.length ≤ 250) ∧ (∀ b ∈ ([0x41, 0x00] : List Byte), b ≠ 0xA5) := by decide +kernel

/-- A display frame, a LIST, a CALL and a take answer. -/
def frames : List Frame := [.display (SD.content 3 counter), .list [42], .call 42 3 4 false, .refuse .full]

theorem witness_OutgoingListsSendAndHoldEight :
    ((Frame.refuse .full).isDisplay = false ∧ ([] : List Frame).length < 7 ∧ (∀ x ∈ List.replicate 6 (Frame.refuse .full), x.isDisplay = false))
      ∧ (let f := Frame.display (SD.content 3 counter)
         [Frame.list [1], f] = [Frame.list [1]] ++ f :: [] ∧ f.isDisplay = true ∧ ∀ x ∈ [Frame.list [1]], x.isDisplay = false)
      ∧ ((List.replicate 7 (Frame.refuse .full)).length = 7 ∧ (Frame.refuse .full).isTakeAnswer = true)
      ∧ (let ws := List.replicate 6 (Frame.call 42 3 4 false) ++ Frame.list [42] :: []
         ws.length = 7 ∧ (Frame.list [1]).isList = true ∧ ∀ x ∈ List.replicate 6 (Frame.call 42 3 4 false), x.isList = false)
      ∧ (let ws := [] ++ Frame.call 42 3 4 false :: List.replicate 6 (Frame.refuse .full)
         ws.length = 7 ∧ (Frame.call 1 3 4 false).isCall = true ∧ ∀ x ∈ ws, x.isList = false)
      ∧ counter.running = true := by decide +kernel

/-! ### Witnesses: samples, displays, the journal -/

/-- Station 3 in ZEROING at arrival 9 of 1.5, four counts in the ring, the counter one short of 0. -/
def zeroing (n : Int) (tried : Bool) : State :=
  chan (fun ch => { ch with
    state := .zeroing, ring := List.replicate 4 n, average := n, stable := 1, zeroTried := tried, zeroOffset := 0, initialOffset := 0
    shown := none, range := none }) counter

theorem witness_SamplesGiveTheWeight :
    (∀ x ∈ [WeightState.motion, .stable, .over, .under, .zeroing],
        let s := chan (fun ch => { ch with state := x }) counter
        LK.delivers (stationLink 3) s = true ∧ (s.channel 3).settings = some cfg
          ∧ (s.channel 3).state = x ∧ (s.dialogue 3).pendingAction = .none ∧ (s.dialogue 3).mode = .normal)
      ∧ (let s := chan (fun ch => { ch with state := .none }) counter
         LK.delivers (stationLink 3) s = true ∧ (s.channel 3).state = .none)
      ∧ (∀ x ∈ [(120000 + 800000, true), (120000 + 800001, false)],
          ((zeroing x.1 false).channel 3).stable - 1 = 0 ∧ ((zeroing x.1 false).channel 3).zeroTried = false
            ∧ roundDiv (4 * x.1) 4 = x.1 ∧ |x.1 - x.1| ≤ (cfg.motionBand : Int)
            ∧ decide (10 * |roundDiv ((x.1 - cal.calZero) * cal.spanNum) cal.spanDen| ≤ (cal.capacity : Int)) = x.2)
      ∧ ((zeroing 120000 true).channel 3).zeroTried = true := by decide +kernel

/-- A pending print with its budget. -/
def pendingPrint (budget : Nat) (s : State) : State :=
  dlg (fun d => { d with pendingAction := .print, pendingBudget := budget, pendingDest := some .loose, selection := some ham }) s

/-- The hypotheses of PendingPrintsWaitOrEnd that its clauses share. -/
def printPending (s : State) : Bool :=
  LK.delivers (stationLink 3) s && (s.channel 3).state != .none && (s.channel 3).settings.isSome
    && (s.dialogue 3).pendingAction == .print && decide (1 ≤ (s.dialogue 3).pendingBudget) && (s.dialogue 3).mode == .normal

/-- A pending tare with its budget. -/
def pendingTare (budget : Nat) (s : State) : State := dlg (fun d => { d with pendingAction := .tare, pendingBudget := budget }) s

/-- The ring of station 3 with four counts of `n`, so that an arrival of the same count keeps the average. -/
def steady (n : Int) (s : State) : State := chan (fun ch => { ch with ring := List.replicate 4 n, zeroOffset := 0 }) s

/-- The hypotheses of PendingActionsSettleAtArrivals about a pending tare that its clauses share. -/
def tarePending (s : State) : Bool :=
  LK.delivers (stationLink 3) s && (s.channel 3).state != .none && (s.channel 3).settings == some cfg
    && (s.dialogue 3).pendingAction == .tare && (s.dialogue 3).mode == .normal && decide (0 < cal.d1)

/-- What the arrival of a count gives at station 3. -/
def arrives (raw : BitVec 24) (s : State) (p : Channel → Bool) : Bool := after (.sample 3 raw 1) s (fun t => p (t.channel 3))

theorem witness_PendingActionsSettleAtArrivals_print :
    (∀ n ∈ [1, 2], printPending (pendingPrint n counter) = true ∧ ((pendingPrint n counter).dialogue 3).pendingBudget = n
        ∧ after (.sample 3 119930#24 1) (pendingPrint n counter) (fun t => (t.channel 3).state == .motion) = true)
      ∧ after (.sample 3 0x7FFFFF#24 1) (pendingPrint 2 (chan (fun ch => { ch with ring := [] }) counter))
          (fun t => (t.channel 3).state == .over) = true
      ∧ after (.sample 3 0x800000#24 1) (pendingPrint 2 (chan (fun ch => { ch with ring := [] }) counter))
          (fun t => (t.channel 3).state == .under) = true
      ∧ after (.sample 3 780121#24 1) (pendingPrint 1 counter) (fun t => (t.channel 3).state == .stable) = true := by decide +kernel

/-- The commit of a pending print: in an order with 39 and with 40 items, loose with and without room, and where loose items are not
allowed. -/
theorem witness_PendingActionsSettleAtArrivals_commit :
    (∀ x ∈ [(serving { order118 with items := List.replicate 39 item1 } counter, none),
        (serving { order118 with items := List.replicate 40 item1 } counter, some Message.orderFull),
        (used 59 counter, none), (used 60 counter, some .journalFull)],
      let s := pendingPrint 1 x.1
      printPending s = true ∧ (s.channel 3).tareKind ≠ .preset ∧ (s.dialogue 3).selection = some ham ∧ s.dt.day = .opened ∧ s.pu.fault = false
        ∧ PU.lookup s.mem s.pu 4521 = .found ham ∧ JW.hasRoom 0 s = true
        ∧ arrives 780121#24 s (fun ch => ch.state == .stable
            && (match PU.price s.pu.epoch ham.kind ch none ham with
                | .ok pr => placeRefusal 3 (OT.orderAt s 3) pr s == x.2
                | .error _ => false)) = true)
      ∧ (let s := pendingPrint 1 (chan (fun ch => { ch with settings := some { cfg with looseAllowed := false } }) counter)
         printPending s = true ∧ OT.orderAt s 3 = none)
      ∧ (let s := pendingPrint 1 (chan (fun ch => { ch with tareKind := .keyed, tare := 1236000 }) counter)
         printPending s = true ∧ arrives 780121#24 s (fun ch => ch.state == .stable
            && (match PU.price s.pu.epoch ham.kind ch none ham with
                | .ok _ => false
                | .error m => m == .belowMin)) = true) := by decide +kernel

/-- A pending tare: cleared, too large, taken, without effect and refused in STABLE, and in OVER, UNDER and MOTION. Counts 120,533 and
119,467 give 999 mg and −999 mg, 120,534 and 119,466 give 1,001 mg and −1,001 mg. -/
theorem witness_PendingActionsSettleAtArrivals_tare :
    (∀ n ∈ [120533, 119467], tarePending (pendingTare 1 (steady n (chan (fun ch => { ch with tareKind := .keyed, tare := 2000 }) counter))) = true
        ∧ arrives (BitVec.ofInt 24 n) (pendingTare 1 (steady n (chan (fun ch => { ch with tareKind := .keyed, tare := 2000 }) counter)))
          (fun ch => ch.state == .stable && decide (2 * |ch.gross| < (cal.d1 : Int))) = true
        ∧ arrives (BitVec.ofInt 24 n) (pendingTare 1 (steady n counter)) (fun ch => ch.state == .stable && ch.tareKind == .none) = true)
      ∧ arrives 120534#24 (pendingTare 1 (steady 120534 counter)) (fun ch => ch.state == .stable && decide ((cal.d1 : Int) ≤ 2 * ch.gross)) = true
      ∧ arrives 4780121#24 (pendingTare 1 (steady 4780121 counter)) (fun ch => ch.state == .stable
          && decide ((cal.range1Max : Int) < roundDiv ch.gross cal.d1 * cal.d1)) = true
      ∧ arrives 119466#24 (pendingTare 1 (steady 119466 counter)) (fun ch => ch.state == .stable && decide (2 * ch.gross ≤ -(cal.d1 : Int))) = true
      ∧ arrives 0x7FFFFF#24 (pendingTare 1 (chan (fun ch => { ch with ring := [] }) counter)) (fun ch => ch.state == .over) = true
      ∧ arrives 0x800000#24 (pendingTare 1 (chan (fun ch => { ch with ring := [] }) counter)) (fun ch => ch.state == .under) = true
      ∧ (∀ n ∈ [1, 2], arrives 119930#24 (pendingTare n counter) (fun ch => ch.state == .motion) = true) := by decide +kernel

theorem witness_DisplaysAreSentWhenTheyChange :
    let s := SD.tell 3 counter
    (s.told[3] = true ∧ s.linkUp (stationLink 3) = true ∧ (s.dialogue 3).lastDisplay ≠ some (SD.content 3 s)
        ∧ (joinOutgoing (stationLink 3) (.display (SD.content 3 s)) (s.link (stationLink 3)).out).isSome = true)
      ∧ counter.told[3] = false ∧ linksDown.linkUp (stationLink 3) = false := by decide +kernel

/-- States in which the commands tell their stations. -/
theorem witness_DisplaysAreSentWhenTheyChange_tells :
    (LK.delivers (stationLink 3) counter = true ∧ (counter.link (stationLink 3)).lastKey ≠ some 9 ∧ Instr.keyVoid 3 9 ∈ keyCommands 3 9 0
        ∧ (counter.channel 3).state ≠ .none ∧ (counter.channel 3).settings.isSome = true ∧ counter.running = true
        ∧ (counter.link (stationLink 3)).silence.isSome = true ∧ (counter.link (stationLink 3)).state = .up)
      ∧ (∀ sel ∈ [none, some ham], ((told sel).dialogue 3).relookup = true)
      ∧ (let s := recalls 0
         s.order 0 = some { order118 with state := .called } ∧ order118.clerk = some 6 ∧ (s.clerk 6).station = some 3
           ∧ s.callRecord 0 = some { timer := some 30, level := 4, entry := entry42 } ∧ s.tu.settings.recallLimit < order118.callCount)
      ∧ (let s := inClose .forced (job none .active) (serving order118 counter)
         s.order 0 = some order118 ∧ (∀ k, k < (0 : SlotNo) → s.order k = none) ∧ s.dt.day = .forced
           ∧ s.dt.close.any (fun j => j.forcing == .active) = true ∧ JW.hasRoom 5 s = true)
      ∧ (let s := inClose .waiting (job (some 0) .idle) counter
         s.running = true ∧ s.dt.day = .waiting ∧ (job (some 0) .idle).deadline.isSome = true ∧ s.tu.line = [] ∧ OT.inUse s = [])
      ∧ (let s := validating (priceJob .check 0) counter
         s.pu.fault = false ∧ (PU.validate s.mem (PU.base s.pu .a) 1 0).isSome = true)
      ∧ (let s := asks .urgent [17, 7] (clerked counter)
         served .urgent 17 s = true ∧ LU.param .urgent 1 s = (6 : Fin 32).val + 1 ∧ (s.clerk 6).station = some 3)
      ∧ (let s := reloads (counter.setService true)
         served .urgent 8 s = true ∧ LU.param .urgent 1 s = 3 ∧ s.service = true)
      ∧ (∀ n ∈ [0, 1, 2, 3], acting n (asks .urgent [9, 3, n] counter) = true) := by decide +kernel

/-- R46: an ENABLE of an ENABLED station, and a re-lookup without a PLU, compose the display. -/
theorem test_an_event_without_effect_composes_the_display :
    after .stationMode (asks .urgent [9, 3, 0] counter) (fun t => (t.dialogue 3).lastDisplay.isSome) = true
      ∧ after (.reLookup 3) (told none) (fun t => (t.dialogue 3).lastDisplay.isSome) = true
      ∧ (counter.dialogue 3).lastDisplay = none := by decide +kernel

theorem witness_JournalWritesByClass :
    (JW.hasRoom 1 counter = true ∧ JW.hasRoom 1 (used 63 counter) = true)
      ∧ (∀ n ∈ [0, 59, 60, 63, 64], (used n counter).jw.hold = [] ∧ (used n counter).jw.fault = false
          ∧ JW.consistent (used n counter) = true)
      ∧ JW.consistent (used 65 counter) = false
      ∧ (∀ n ∈ [60, 63, 64], let s := used n (heldFour counter)
         JW.hasRoom 0 { s with jw := { s.jw with hold := [] } } = true ∧ s.jw.hold.length = 4 ∧ JW.free s = 64 - n)
      ∧ (let s := used 64 (heldFour counter)
         JW.consistent s = true ∧ s.jw.fault = false ∧ s.jw.hold ≠ [] ∧ JW.free s = 0) := by decide +kernel

/-! ### Witnesses: keys -/

theorem witness_KeysAreTakenOnceAndEchoed :
    let resent := counter.modLink (stationLink 3) (fun k => { k with lastKey := some 9 })
    ((Instr.keyVoid 3 9 ∈ keyCommands 3 9 0 ∧ Instr.keyDigit 3 9 9 ∈ keyCommands 3 9 9) ∧ LK.delivers (stationLink 3) counter = true
        ∧ (counter.link (stationLink 3)).lastKey ≠ some 9)
      ∧ (LK.delivers (stationLink 3) resent = true ∧ (resent.link (stationLink 3)).lastKey = some 9)
      ∧ ((chan (fun ch => { ch with enabled := false }) counter).channel 3).enabled = false := by decide +kernel

theorem witness_EntryKeysFollowTheirCases :
    (SD.hears 3 9 counter = true ∧ (counter.channel 3).settings = some cfg)
      ∧ (let s := dlg (fun d => { d with noShow := true }) counter
         SD.hears 3 9 s = true ∧ (s.dialogue 3).noShow = true)
      ∧ (let s := dlg (fun d => { d with buffer := [1] }) counter
         SD.hears 3 9 s = true ∧ (s.dialogue 3).noShow = false ∧ (s.dialogue 3).buffer ≠ [])
      ∧ ((counter.dialogue 3).noShow = false ∧ (counter.dialogue 3).buffer = [] ∧ (counter.dialogue 3).pendingAction = .none
          ∧ (counter.dialogue 3).mode = .normal ∧ (counter.dialogue 3).selection = none)
      ∧ (let s := dlg (fun d => { d with selection := some ham }) counter
         (s.dialogue 3).buffer = [] ∧ (s.dialogue 3).selection.isSome = true) := by decide +kernel

/-- Digits in the buffer of station 3. -/
def keyed (digits : List (Fin 10)) (s : State) : State := dlg (fun d => { d with buffer := digits }) s

theorem witness_PluKeySelects :
    (SD.hears 3 9 (priceFault counter) = true ∧ (counter.channel 3).settings = some cfg ∧ (priceFault counter).pu.fault = true)
      ∧ (SD.hears 3 9 counter = true ∧ counter.pu.fault = false ∧ (counter.dialogue 3).buffer = [])
      ∧ (let s := keyed [9, 9, 9, 9, 9, 9] counter
         SD.hears 3 9 s = true ∧ bufferValue (s.dialogue 3).buffer = some 999999 ∧ PU.lookup s.mem s.pu 999999 = .absent)
      ∧ (let s := keyed [4, 5, 2, 1] counter
         SD.hears 3 9 s = true ∧ bufferValue (s.dialogue 3).buffer = some 4521 ∧ PU.lookup s.mem s.pu 4521 = .found ham)
      ∧ (let s := badRecord (keyed [4, 5, 2, 1] counter)
         SD.hears 3 9 s = true ∧ s.pu.fault = false ∧ bufferValue (s.dialogue 3).buffer = some 4521
           ∧ PU.lookup s.mem s.pu 4521 = .invalid) := by
  decide +kernel

/-- Station 3 in a weight state. -/
def weighing (x : WeightState) (s : State) : State := chan (fun ch => { ch with state := x }) s

/-- Station 3 at the zero of 1.8 with a candidate offset. -/
def candidate (n : Int) : State := chan (fun ch => { ch with average := 120000 + n }) counter

/-- The condition of the zero range as ZeroAndTareFollowTheirTables states it. -/
def inRange (n : Int) : Bool :=
  decide (|(((candidate n).channel 3).average - cal.calZero - ((candidate n).channel 3).initialOffset) * cal.spanNum| * 25
    ≤ (cal.capacity : Int) * cal.spanDen)

theorem witness_ZeroAndTareFollowTheirTables :
    (∀ x ∈ [WeightState.motion, .over, .under, .stable, .zeroing, .none], SD.hears 3 9 (weighing x counter) = true
        ∧ ((weighing x counter).channel 3).settings = some cfg ∧ ((weighing x counter).dialogue 3).mode = .normal
        ∧ ((weighing x counter).dialogue 3).pendingAction = .none ∧ ((weighing x counter).channel 3).state = x)
      ∧ ((pendingPrint 1 counter).dialogue 3).pendingAction ≠ .none
      ∧ ((chan (fun ch => { ch with tareKind := .keyed }) counter).channel 3).tareKind ≠ .none
      ∧ (inRange 319930 = true ∧ inRange 319931 = false ∧ (counter.channel 3).tareKind = .none ∧ (counter.channel 3).tare = 0
          ∧ (counter.channel 3).stable = 0 ∧ 0 < cal.spanDen ∧ 0 < cal.d1)
      ∧ (onDay .closed counter).dt.day = .closed
      ∧ (counter.dt.day ≠ .closed ∧ (cal.d1 : Int) ≤ 2 * (counter.channel 3).gross
          ∧ roundDiv (counter.channel 3).gross cal.d1 * cal.d1 ≤ (cal.range1Max : Int))
      ∧ (let g := ((chan (fun ch => { ch with gross := 6001000 }) counter).channel 3).gross
         (cal.d1 : Int) ≤ 2 * g ∧ (cal.range1Max : Int) < roundDiv g cal.d1 * cal.d1)
      ∧ (counter.dt.day ≠ .closed ∧ ((pendingPrint 1 counter).dialogue 3).pendingAction = .print
          ∧ ((pendingTare 1 (weighing .motion counter)).dialogue 3).pendingAction = .tare)
      ∧ (∀ g ∈ [999, -999], 2 * |((chan (fun ch => { ch with gross := g, tareKind := .keyed }) counter).channel 3).gross| < (cal.d1 : Int))
      ∧ 2 * ((chan (fun ch => { ch with gross := -1000 }) counter).channel 3).gross ≤ -(cal.d1 : Int)
      ∧ 0 < ((zeroing 120000 false).channel 3).stable
      ∧ (∀ x ∈ [(800000, true), (800001, false)],
          decide (10 * |roundDiv ((((candidate x.1).channel 3).average - cal.calZero) * cal.spanNum) cal.spanDen| ≤ (cal.capacity : Int)) = x.2) := by
  decide +kernel

/-- The hypotheses of PrintIsRefusedIgnoredOrPending that its clauses share. -/
def prints (s : State) : Bool := SD.hears 3 9 s && decide ((s.channel 3).settings.isSome = true)

/-- Station 3 with the ham selected. -/
def selected (s : State) : State := dlg (fun d => { d with selection := some ham }) s

/-- Loose items not allowed at station 3. -/
def orderOnly (s : State) : State := chan (fun ch => { ch with settings := some { cfg with looseAllowed := false } }) s

theorem witness_PrintIsRefusedIgnoredOrPending :
    (prints (dlg (fun d => { d with noShow := true }) counter) = true
        ∧ ((dlg (fun d => { d with noShow := true }) counter).dialogue 3).noShow = true)
      ∧ (prints (dlg (fun d => { d with mode := .runArmed }) counter) = true
        ∧ ((dlg (fun d => { d with mode := .runArmed }) counter).dialogue 3).mode ≠ .normal)
      ∧ (prints (pendingPrint 1 counter) = true ∧ ((pendingPrint 1 counter).dialogue 3).pendingAction = .print)
      ∧ (let s := dlg (fun d => { d with pendingAction := .tare }) counter
         prints s = true ∧ (s.dialogue 3).noShow = false ∧ (s.dialogue 3).mode = .normal ∧ (s.dialogue 3).pendingAction = .tare)
      ∧ (prints counter = true ∧ (counter.dialogue 3).selection = none)
      ∧ (∀ d ∈ [DayState.closed, .forced, .opened, .waiting], prints (onDay d (selected counter)) = true
          ∧ ((onDay d (selected counter)).dialogue 3).selection = some ham ∧ (onDay d (selected counter)).dt.day = d)
      ∧ (prints (priceFault (selected counter)) = true ∧ (priceFault (selected counter)).pu.fault = true)
      ∧ (let s := orderOnly (selected counter)
         prints s = true ∧ s.pu.fault = false ∧ OT.orderAt s 3 = none
           ∧ (s.channel 3).settings = some { cfg with looseAllowed := false })
      ∧ (∀ x ∈ [WeightState.zeroing, .over, .under, .motion], prints (weighing x (selected counter)) = true
          ∧ ((weighing x (selected counter)).channel 3).state = x ∧ ham.kind = .weighed)
      ∧ (prints (weighing .motion (selected (called counter))) = true
          ∧ OT.orderAt (weighing .motion (selected (called counter))) 3 ≠ none) := by decide +kernel

/-- The hypotheses of PrintCommitsAnItem that its clauses share. -/
def commits (s : State) : Bool :=
  SD.hears 3 9 s && decide ((s.channel 3).settings = some cfg ∧ (s.dialogue 3).noShow = false ∧ (s.dialogue 3).mode = .normal
    ∧ (s.dialogue 3).pendingAction = .none ∧ (s.dialogue 3).selection = some ham ∧ (s.dt.day = .opened ∨ s.dt.day = .waiting)
    ∧ s.pu.fault = false ∧ PU.lookup s.mem s.pu ham.plu = .found ham ∧ (ham.kind = .weighed → (s.channel 3).state = .stable))

/-- The ham of 1,238 g, priced. -/
def hamPriced : Priced := { record := ham, net := 1238, tare := 0, count := 0, amount := 2351, epoch := 1 }

/-- The pricing of the selection at station 3. -/
def pricing (s : State) : Except Message Priced :=
  PU.price s.pu.epoch ham.kind (s.channel 3) (bufferValue (s.dialogue 3).buffer) ham

theorem witness_PrintCommitsAnItem :
    (∀ st ∈ [OrderState.opened, .called], ∀ n ∈ [0, 39],
        let o := { order118 with state := st, items := List.replicate n item1, total := 9999999 - 2351 }
        let s := selected (serving o counter)
        commits s = true ∧ OT.orderAt s 3 = some (0, o) ∧ pricing s = .ok hamPriced ∧ placeRefusal 3 (some (0, o)) hamPriced s = none)
      ∧ (∀ x ∈ [({ order118 with items := List.replicate 40 item1 }, Message.orderFull), ({ order118 with total := 9999999 - 2350 }, .priceLimit)],
        let s := selected (serving x.1 counter)
        commits s = true ∧ OT.orderAt s 3 = some (0, x.1) ∧ pricing s = .ok hamPriced ∧ placeRefusal 3 (some (0, x.1)) hamPriced s = some x.2)
      ∧ (∀ x ∈ [(used 59 counter, none), (used 60 counter, some Message.journalFull),
          ({ counter with lc := { counter.lc with layouts := Vector.replicate 8 .unusable } }, some .notAllowed),
          ({ counter with pq := Vector.replicate 2 PrintQueue.reset }, some .noPrinter)],
         let s := selected x.1
         commits s = true ∧ OT.orderAt s 3 = none ∧ cfg.looseAllowed = true ∧ pricing s = .ok hamPriced ∧ JW.hasRoom 0 s = true
           ∧ placeRefusal 3 none hamPriced s = x.2)
      ∧ (let s := selected (chan (fun ch => { ch with net := 38000, shown := some 38000 }) counter)
         commits s = true ∧ pricing s = .error .belowMin)
      ∧ (let s := dlg (fun d => { d with selection := some { ham with plu := 999999 } }) counter
         SD.hears 3 9 s = true ∧ PU.lookup s.mem s.pu 999999 = .absent)
      ∧ (SD.hears 3 9 (badRecord (selected counter)) = true
          ∧ PU.lookup (badRecord (selected counter)).mem (badRecord (selected counter)).pu 4521 = .invalid) := by decide +kernel

/-- Station 3 in RUN mode with the ham selected. -/
def running (m : Mode) (s : State) : State := dlg (fun d => { d with mode := m, selection := some ham }) s

/-- Arrivals in RUN mode: 20 g is the minimum weight of 40,000 mg's division, one division less arms; 120,000 + 21,334 counts show 40 g and
120,000 + 20,266 counts 38 g. The commit is admitted with room and refused without, by the day, the fault and the station's permission. -/
theorem witness_RunModeFollowsItsCases_arrivals :
    (∀ n ∈ [140266, 141334], ∀ m ∈ [Mode.runArmed, .runDisarmed], let s := running m (steady n counter)
        LK.delivers (stationLink 3) s = true ∧ (s.channel 3).settings = some cfg ∧ (s.dialogue 3).pendingAction = .none
          ∧ (s.dialogue 3).mode = m
          ∧ arrives (BitVec.ofInt 24 n) s (fun ch => ch.state == .stable && ch.shown == some (if n = 140266 then 38000 else 40000)) = true)
      ∧ (∀ x ∈ [(used 59 counter, none), (used 60 counter, some Message.journalFull)],
        let s := running .runArmed (steady 141334 x.1)
        s.dt.day = .opened ∧ s.pu.fault = false ∧ (s.dialogue 3).selection = some ham ∧ PU.lookup s.mem s.pu 4521 = .found ham
          ∧ JW.hasRoom 0 s = true ∧ arrives 141334#24 s (fun ch => match PU.price s.pu.epoch ham.kind ch none ham with
              | .ok pr => placeRefusal 3 none pr s == x.2
              | .error _ => false) = true)
      ∧ (∀ d ∈ [DayState.closed, .forced], (running .runArmed (onDay d counter)).dt.day = d)
      ∧ (running .runArmed (priceFault counter)).pu.fault = true ∧ ((orderOnly counter).channel 3).settings = some { cfg with looseAllowed := false }
      ∧ (PU.lookup (badRecord counter).mem counter.pu 4521 = .invalid ∧ PU.lookup counter.mem counter.pu 999999 = .absent) := by decide +kernel

theorem witness_RunModeFollowsItsCases_key :
    (prints (dlg (fun d => { d with noShow := true }) counter) = true)
      ∧ (let s := dlg (fun d => { d with mode := .runDisarmed }) counter
         prints s = true ∧ (s.dialogue 3).noShow = false ∧ (s.dialogue 3).mode ≠ .normal)
      ∧ (prints (pendingPrint 1 counter) = true ∧ ((pendingPrint 1 counter).dialogue 3).pendingAction ≠ .none)
      ∧ (prints (onDay .closed counter) = true ∧ ((onDay .closed counter).dialogue 3).pendingAction = .none)
      ∧ (prints counter = true ∧ (counter.dialogue 3).selection = none)
      ∧ (let s := selected counter
         prints s = true ∧ cfg.runAllowed = true ∧ cfg.looseAllowed = true ∧ (s.dialogue 3).selection = some ham
           ∧ ham.kind = .weighed ∧ OT.orderAt s 3 = none) := by decide +kernel

theorem witness_ClerkKeySignsOnAndOff :
    (SD.hears 3 9 (keyed [0] counter) = true ∧ bufferValue ((keyed [0] counter).dialogue 3).buffer = some 0)
      ∧ bufferValue ((keyed [3, 3] counter).dialogue 3).buffer = some 33
      ∧ (bufferValue ((keyed [1] counter).dialogue 3).buffer = some ((0 : Fin 32).val + 1)
          ∧ bufferValue ((keyed [3, 2] counter).dialogue 3).buffer = some ((31 : Fin 32).val + 1))
      ∧ (let s := keyed [7] (clerked counter)
         SD.hears 3 9 s = true ∧ bufferValue (s.dialogue 3).buffer = some 7 ∧ (s.clerk 6).station = some 3
           ∧ (s.clerk 0).station ≠ some 3)
      ∧ (bufferValue (counter.dialogue 3).buffer = none ∧ OT.clerkAt counter 3 = none)
      ∧ (OT.clerkAt (clerked counter) 3 = some 6 ∧ ((clerked counter).clerk 6).slot = none)
      ∧ (OT.clerkAt (serving order118 counter) 3 = some 6 ∧ ((serving order118 counter).clerk 6).slot = some 0
          ∧ (serving order118 counter).order 0 = some order118 ∧ order118.state = .opened)
      ∧ (∀ x ∈ [(lineOf 63 (called counter), none), (lineOf 64 (called counter), some LapseCause.lineFull),
          (onDay .forced (called counter), some .close)],
         let s := used 59 x.1
         SD.hears 3 9 s = true ∧ bufferValue (s.dialogue 3).buffer = none ∧ OT.clerkAt s 3 = some 6 ∧ (s.clerk 6).slot = some 0
           ∧ s.order 0 = some { order118 with state := .called } ∧ order118.clerk = some 6 ∧ (s.callRecord 0).isSome = true
           ∧ returnCause s = x.2 ∧ JW.hasRoom 5 s = true ∧ goes 0 s = true)
      ∧ (let s := used 59 (called (inClose .forced (job none .idle) counter))
         SD.hears 3 9 s = true ∧ OT.clerkAt s 3 = some 6 ∧ returnCause s = some .close ∧ JW.hasRoom 5 s = true
           ∧ ends 0 (job none .idle) s = true) := by decide +kernel

theorem witness_NextCallsTheTopOfTheLine :
    (SD.hears 3 9 (pendingPrint 1 counter) = true ∧ ((pendingPrint 1 counter).dialogue 3).pendingAction ≠ .none)
      ∧ (SD.hears 3 9 counter = true ∧ (counter.dialogue 3).pendingAction = .none ∧ OT.clerkAt counter 3 = none)
      ∧ (let s := dlg (fun d => { d with mode := .runArmed }) (clerked counter)
         OT.clerkAt s 3 = some 6 ∧ (s.dialogue 3).mode ≠ .normal)
      ∧ (∀ d ∈ [DayState.closed, .forced, .opened, .waiting], let s := onDay d (clerked counter)
         SD.hears 3 9 s = true ∧ OT.clerkAt s 3 = some 6 ∧ (s.dialogue 3).mode = .normal ∧ s.dt.day = d ∧ OT.orderAt s 3 = none
           ∧ s.tu.line = [])
      ∧ OT.orderAt (serving order118 counter) 3 ≠ none
      ∧ (let s := lined (clerked (slotsTo 32 counter))
         SD.hears 3 9 s = true ∧ OT.clerkAt s 3 = some 6 ∧ s.tu.line ≠ [] ∧ ∀ i, (s.order i).isSome = true)
      ∧ (∀ n ∈ [(0 : SlotNo), 31], let s := lined (clerked (slotsTo n.val counter))
         OT.clerkAt s 3 = some 6 ∧ OT.orderAt s 3 = none ∧ s.tu.line = entry42 :: [] ∧ s.order n = none
           ∧ ∀ j, j < n → (s.order j).isSome = true) := by decide +kernel

/-- The hypotheses of OrderParkAndVoidChangeTheOrder that its clauses share. -/
def clerkKeys (s : State) : Bool :=
  SD.hears 3 9 s && decide (OT.clerkAt s 3 = some 6 ∧ (s.dialogue 3).pendingAction = .none ∧ (s.dialogue 3).mode = .normal)

/-- A PARKED order. -/
def parked118 : Machine.Order := { order118 with state := .parked, clerk := none, items := [item1], total := 2351 }

/-- An order with items, the last one voided. -/
def twoItems : Machine.Order := { order118 with items := [item1, { item1 with voided := true }], total := 2351 }

theorem witness_OrderParkAndVoidChangeTheOrder :
    (clerkKeys (clerked counter) = true ∧ OT.orderAt (clerked counter) 3 = none)
      ∧ (∀ n ∈ [(1, [(1 : Fin 10)]), (99, [9, 9])], bufferValue ((keyed n.2 (clerked counter)).dialogue 3).buffer = some n.1)
      ∧ (let s := keyed [4, 2] ((clerked counter).setOrder 5 (some parked118))
         clerkKeys s = true ∧ OT.orderAt s 3 = none ∧ bufferValue (s.dialogue 3).buffer = some 42 ∧ s.order 5 = some parked118
           ∧ parked118.ticket = 42 ∧ parked118.state = .parked
           ∧ ∀ i, ∀ o ∈ s.order i, o.ticket = 42 → i = 5)
      ∧ ((clerked counter).setOrder 5 (some order118)).order 5 = some order118
      ∧ (let s := called counter
         clerkKeys s = true ∧ OT.orderAt s 3 = some (0, { order118 with state := .called }))
      ∧ (let s := serving order118 counter
         clerkKeys s = true ∧ OT.orderAt s 3 = some (0, order118) ∧ order118.items = [] ∧ ∀ x ∈ order118.items, x.voided = true)
      ∧ (let s := serving twoItems counter
         clerkKeys s = true ∧ OT.orderAt s 3 = some (0, twoItems) ∧ twoItems.items ≠ [] ∧ twoItems.clerk = some 6
           ∧ twoItems.items = [] ++ item1 :: [{ item1 with voided := true }] ∧ item1.voided = false
           ∧ ∀ y ∈ [{ item1 with voided := true }], y.voided = true) := by decide +kernel

theorem witness_TotalFinishesTheOrder :
    (clerkKeys (clerked counter) = true ∧ OT.orderAt (clerked counter) 3 = none)
      ∧ (let s := onDay .forced (serving twoItems counter)
         clerkKeys s = true ∧ OT.orderAt s 3 = some (0, twoItems) ∧ s.dt.day = .forced)
      ∧ (clerkKeys (called counter) = true ∧ OT.orderAt (called counter) 3 = some (0, { order118 with state := .called }))
      ∧ (let s := serving order118 counter
         OT.orderAt s 3 = some (0, order118) ∧ order118.items.filter (fun x => !x.voided) = [] ∧ JW.hasRoom 5 s = true
           ∧ goes 0 s = true ∧ JW.lacksRoom 5 (used 60 s) = true ∧ clerkKeys (used 60 s) = true)
      ∧ (∀ o ∈ [order118, twoItems], let s := used 58 (serving o (inClose .waiting (job (some 0) .idle) counter))
         clerkKeys s = true ∧ OT.orderAt s 3 = some (0, o) ∧ s.dt.day ≠ .forced ∧ o.state ≠ .called ∧ JW.hasRoom 6 s = true
           ∧ ends 0 (job (some 0) .idle) s = true)
      ∧ (let s := serving twoItems counter
         OT.orderAt s 3 = some (0, twoItems) ∧ (twoItems.items.filter (fun x => !x.voided)).length = 1 ∧ JW.hasRoom 6 s = true
           ∧ JW.lacksRoom 6 (used 59 s) = true ∧ JW.hasRoom 6 (used 58 s) = true ∧ LC.totalLayout s ≠ none ∧ PQ.choose s 3 = some 0
           ∧ twoItems.clerk = some 6 ∧ goes 0 s = true)
      ∧ (let s := serving twoItems { counter with lc := { counter.lc with total := none } }
         clerkKeys s = true ∧ JW.hasRoom 6 s = true ∧ LC.totalLayout s = none)
      ∧ (let s := serving twoItems { counter with pq := Vector.replicate 2 PrintQueue.reset }
         clerkKeys s = true ∧ JW.hasRoom 6 s = true ∧ LC.totalLayout s ≠ none ∧ PQ.choose s 3 = none) := by decide +kernel

end Sys2Proof.Tests
end

/-! PROOFS. The price requests and jobs and CONTROL: rules about counter memory, displays, the journal and the lanes first, then the
obligations O7, O21, O30 and O31. -/

namespace Sys2Proof.Machine.Prices

open Sys2Proof Sys2Proof.Machine

/-! ## Counter memory and fields -/

/-! ### Bytes of a field -/

@[simp] theorem length_leBytes (n v : Nat) : (leBytes n v).length = n := by
  induction n generalizing v with
  | zero => rfl
  | succ n ih => simp [leBytes, ih]

@[simp] theorem length_field (n v : Nat) : (field n v).length = n := length_leBytes n _

@[simp] theorem length_padTo (n : Nat) (bs : List Byte) : (padTo n bs).length = n := by simp [padTo, zeros]

@[simp] theorem length_answer_bytes (a : Answer) : a.bytes.length = 32 := length_padTo 32 _

@[simp] theorem length_encode (r : RecordBody) (seq : Word) (clock : Stamp) : (r.encode seq clock).length = 64 :=
  length_padTo 64 _

/-- A value that fits its field is read back (chapter 11). -/
theorem leNat_leBytes (n v : Nat) (hv : v < 256 ^ n) : leNat (leBytes n v) = v := by
  induction n generalizing v with
  | zero =>
    have hzero : v = 0 := by simpa using hv
    simp [leBytes, leNat, hzero]
  | succ n ih =>
    have hrest : v / 256 < 256 ^ n := Nat.div_lt_of_lt_mul (by rwa [pow_succ, mul_comm] at hv)
    simp only [leBytes, leNat, ih _ hrest, BitVec.toNat_ofNat]
    omega

/-- A lane count is read back from its word (R154). -/
theorem leNat_field_count (c : Count) : leNat (field 4 c.toNat) = c.toNat := by
  have hc : c.toNat < 65536 := c.isLt
  rw [field, Nat.min_eq_left (by omega), leNat_leBytes _ _ (by omega)]

/-! ### Reads of counter memory -/

theorem portAddress_of_lt {a : Nat} (h : a < Config.memorySize) : portAddress a = a := Nat.mod_eq_of_lt h

/-- Bytes short of the end of counter memory depend on their own places only. -/
theorem bytes_congr {m m' : Memory} {a n : Nat} (hend : a + n ≤ Config.memorySize)
    (h : ∀ x, within a n x → m'.get x = m.get x) : m'.bytes a n = m.bytes a n := by
  induction n generalizing a with
  | zero => rfl
  | succ n ih =>
    rw [Memory.bytes, Memory.bytes, portAddress_of_lt (by omega), h a ⟨le_rfl, by omega⟩,
      ih (a := a + 1) (by omega) (fun x hx => h x ⟨by have := hx.1; omega, by have := hx.2; omega⟩)]

/-! ### A write of the part -/

/-- A write depends on the window and on counter memory alone. -/
theorem write_mem_congr {s x : State} (hmem : x.mem = s.mem) (hwin : x.window = s.window) (a : Nat) (bs : List Byte) :
    (MP.write a bs x).mem = (MP.write a bs s).mem := by
  simp only [MP.write, hwin, hmem]

/-- A write that ends inside counter memory changes no other byte. -/
theorem get_write_apart {s : State} {a : Nat} {bs : List Byte} (hend : a + bs.length ≤ Config.memorySize) {x : Nat}
    (hx : ¬within a bs.length x) : (MP.write a bs s).mem.get x = s.mem.get x := by
  refine Memory.get_writeIn_apart _ _ _ _ _ (fun i hi heq => hx ?_)
  rw [portAddress_of_lt (by omega)] at heq
  exact ⟨by omega, by omega⟩

/-- A write inside the window is read back. -/
theorem bytes_write_self {s : State} {lo hi a : Nat} {bs : List Byte} (hwf : s.mem.wf = true)
    (hwin : s.window = some (lo, hi)) (hlo : lo ≤ a) (hhi : a + bs.length ≤ hi) (hend : hi ≤ Config.memorySize) :
    (MP.write a bs s).mem.bytes a bs.length = bs := by
  refine Memory.bytes_writeIn_self _ _ _ _ hwf (by omega) (fun i hi => ?_)
  simp only [hwin, inWindow, Bool.and_eq_true, decide_eq_true_eq]
  omega

/-- A write leaves the bytes of a place it does not meet. -/
theorem bytes_write_apart {s : State} {a b n : Nat} {bs : List Byte} (hend : a + bs.length ≤ Config.memorySize)
    (hb : b + n ≤ Config.memorySize) (hapart : a + bs.length ≤ b ∨ b + n ≤ a) :
    (MP.write a bs s).mem.bytes b n = s.mem.bytes b n := by
  refine bytes_congr hb (fun x hx => get_write_apart hend (fun hx' => ?_))
  obtain ⟨h1, h2⟩ := hx
  obtain ⟨h3, h4⟩ := hx'
  omega

/-! ## Displays -/

/-! ### What composing displays changes (R46) -/

/-- From `u` to `t` only last displays, the outgoing lists of the stations' links and the index of free values may differ: what
`OnlyDisplays` says of a whole event, before the told stations are forgotten. -/
structure Composed (u t : State) : Prop where
  frame : t = { u with sd := t.sd, lk := t.lk, freeIndex := t.freeIndex }
  dialogue : ∀ st, t.dialogue st = { u.dialogue st with lastDisplay := (t.dialogue st).lastDisplay }
  link : ∀ l, t.link l = { u.link l with out := (t.link l).out }
  beyond : ∀ l : LinkNo, 8 ≤ l.val → t.link l = u.link l

theorem Composed.refl (u : State) : Composed u u := ⟨rfl, fun _ => rfl, fun _ => rfl, fun _ _ => rfl⟩

theorem Composed.trans {u t v : State} (h : Composed u t) (k : Composed t v) : Composed u v where
  frame := by rw [k.frame, h.frame]
  dialogue st := by rw [k.dialogue st, h.dialogue st]
  link l := by rw [k.link l, h.link l]
  beyond l hl := (k.beyond l hl).trans (h.beyond l hl)

/-- A new outgoing list of a station's link. -/
theorem composed_modLink_out {l : LinkNo} (hl : l.val < 8) (f : Link → List Frame) (s : State) :
    Composed s (s.modLink l (fun k => { k with out := f k })) where
  frame := rfl
  dialogue _ := rfl
  link l' := by
    by_cases h : l' = l
    · subst h
      rw [State.link_modLink]
    · rw [State.link_modLink_ne _ _ _ _ h]
  beyond l' hl' := by
    have hne : l' ≠ l := fun h => by rw [h] at hl'; omega
    exact State.link_modLink_ne _ _ _ _ hne

/-- A draw of a free value. -/
theorem composed_freeIndex (n : Nat) (s : State) : Composed s { s with freeIndex := n } :=
  ⟨rfl, fun _ => rfl, fun _ => rfl, fun _ _ => rfl⟩

/-- A new last display of a station. -/
theorem composed_lastDisplay (st : Station) (c : Option DisplayContent) (s : State) :
    Composed s (s.modDialogue st (fun d => { d with lastDisplay := c })) where
  frame := rfl
  dialogue st' := by
    by_cases h : st' = st
    · subst h
      rw [State.dialogue_modDialogue]
    · rw [State.dialogue_modDialogue_ne _ _ _ _ h]
  link _ := rfl
  beyond _ _ := rfl

theorem composed_join {l : LinkNo} (hl : l.val < 8) (f : Frame) (s : State) : Composed s (LK.join l f s) := by
  unfold LK.join
  split
  · exact composed_modLink_out hl _ s
  · exact (composed_modLink_out hl _ s).trans (composed_freeIndex _ _)

theorem composed_hand {l : LinkNo} (hl : l.val < 8) (f : Frame) (s : State) : Composed s (LK.hand l f s) := by
  unfold LK.hand
  split
  · exact composed_join hl f s
  · exact .refl s

theorem composed_refresh (st : Station) (s : State) : Composed s (SD.refresh st s) := by
  unfold SD.refresh
  dsimp only
  split
  · split
    · exact .refl s
    · exact (composed_hand st.isLt _ s).trans (composed_lastDisplay st _ _)
  · exact .refl s

/-- The displays of the told stations among `sts`, one after another. -/
theorem composed_foldl (sts : List Station) (s : State) :
    Composed s (sts.foldl (fun s st => if s.told[st] then SD.refresh st s else s) s) := by
  induction sts generalizing s with
  | nil => exact .refl s
  | cons st sts ih =>
    refine Composed.trans ?_ (ih _)
    dsimp only
    split
    · exact composed_refresh st s
    · exact .refl s

/-- Composed displays, with no station told any more. -/
theorem onlyDisplays_of_composed {u t : State} (h : Composed u t) :
    OnlyDisplays u { t with told := Vector.replicate 8 false } :=
  ⟨congrArg (fun v : State => { v with told := Vector.replicate 8 false }) h.frame, h.dialogue, h.link, h.beyond⟩

/-- The end of an event changes what composing displays changes, and no station stays told (R46, log 11). -/
theorem onlyDisplays_flush (s : State) : OnlyDisplays s (SD.flush s) :=
  onlyDisplays_of_composed (composed_foldl stations s)

theorem flush_lu (s : State) : (SD.flush s).lu = s.lu := (SD.flush_kept (Kept.refl s)).lanes

theorem flush_mem (s : State) : (SD.flush s).mem = s.mem := by rw [(onlyDisplays_flush s).1]

/-- The end of an event that leaves `u`, but for counter memory and the marks of told stations. -/
theorem onlyDisplays_flush_of_eq {x u : State} {m : Memory} {told : Vector Bool 8}
    (h : x = { u with mem := m, told := told }) :
    (SD.flush x).mem = m ∧ OnlyDisplays { u with mem := (SD.flush x).mem } (SD.flush x) := by
  have hmem : (SD.flush x).mem = m := by rw [flush_mem, h]
  have hdisplays := onlyDisplays_flush x
  rw [hmem]
  generalize SD.flush x = t at hdisplays ⊢
  subst h
  exact ⟨rfl, hdisplays⟩

/-! ## The journal -/

/-! ### Room in the journal (R169) -/

/-- What `JW.hasRoom` says, with its places named. -/
structure Room (n : Nat) (s : State) : Prop where
  wf : s.mem.wf = true
  hold : s.jw.hold = []
  fault : s.jw.fault = false
  used : JW.used s + n ≤ s.jw.capacity
  capacity : s.jw.capacity ∈ [32, 64, 128, 256, 512, 1024]
  placed : ∃ lo hi, s.window = some (lo, hi) ∧ lo ≤ offsetWritten ∧ 256 ≤ s.jw.base
    ∧ s.jw.base + 64 * s.jw.capacity ≤ hi ∧ hi ≤ Config.memorySize

theorem room_of_hasRoom {n : Nat} {s : State} (h : JW.hasRoom n s = true) : Room n s := by
  cases hwin : s.window with
  | none => simp [JW.hasRoom, hwin] at h
  | some w =>
    simp only [JW.hasRoom, hwin, JW.consistent, Bool.and_eq_true, Bool.not_eq_true', decide_eq_true_eq,
      List.isEmpty_iff, List.contains_iff_mem] at h
    obtain ⟨⟨⟨⟨⟨hwf, hhold⟩, hfault⟩, hused⟩, hfree⟩, hcap, hplaced⟩ := h
    have hroom : n ≤ s.jw.capacity - JW.used s := hfree
    exact ⟨hwf, hhold, hfault, by omega, hcap, w.1, w.2, hwin, hplaced⟩

theorem Room.le_capacity {n : Nat} {s : State} (h : Room n s) : s.jw.capacity ≤ 1024 := by
  have hcap := h.capacity
  simp only [List.mem_cons, List.not_mem_nil, or_false] at hcap
  omega

theorem Room.consistent {n : Nat} {s : State} (h : Room n s) : JW.consistent s = true :=
  decide_eq_true (by have := h.used; omega)

theorem Room.free {n : Nat} {s : State} (h : Room n s) : n ≤ JW.free s := by
  have := h.used
  unfold JW.free
  omega

/-- The next record lies in the journal area (9.6). -/
theorem Room.place {n : Nat} {s : State} (h : Room n s) :
    s.jw.base ≤ JW.place s ∧ JW.place s + 64 ≤ s.jw.base + 64 * s.jw.capacity := by
  have hcap : 0 < s.jw.capacity := by
    have hcap := h.capacity
    simp only [List.mem_cons, List.not_mem_nil, or_false] at hcap
    omega
  have hmod := Nat.mod_lt s.jw.written.toNat hcap
  unfold JW.place
  omega

/-- With room and an empty hold a room question changes nothing (R169, R171). -/
theorem Room.ask {n : Nat} {s : State} (h : Room n s) : JW.ask s = s := by
  have hhold : ({ s.jw with hold := [] } : JournalWriter) = s.jw := by rw [← h.hold]
  have hfault : ({ s.jw with fault := false } : JournalWriter) = s.jw := by rw [← h.fault]
  have hflush : JW.flush s = s := by rw [JW.flush, h.hold, JW.flushList, hhold]
  rw [JW.ask, hflush, JW.check, if_pos h.consistent, hfault]

theorem Room.offerC {n : Nat} {s : State} (h : Room (n + 1) s) (r : RecordBody) : JW.offerC r s = JW.write r s := by
  have hfree := h.free
  rw [JW.offerC, h.ask, if_pos ⟨by omega, h.hold⟩]

/-! ### One record written (R170) -/

/-- A record numbered, stamped, placed and counted, with JOURNAL set: all of R170 but the question of JOURNAL_HIGH. -/
def recorded (r : RecordBody) (s : State) : State :=
  NU.set .journal (MP.write offsetWritten (field 4 (s.jw.written + 1).toNat)
    { MP.write (JW.place s) (r.encode s.jw.seq s.dt.clock) s with
      jw := { s.jw with seq := JW.nextSeq s.jw.seq, written := s.jw.written + 1 } })

theorem write_eq_recorded (r : RecordBody) (s : State) :
    JW.write r s = if JW.free (recorded r s) ≤ s.jw.highMark then NU.set .journalHigh (recorded r s) else recorded r s :=
  rfl

/-- The two writes of a record: its 64 bytes, then the `written` word. -/
theorem recorded_mem (r : RecordBody) (s : State) :
    (recorded r s).mem = (MP.write offsetWritten (field 4 (s.jw.written + 1).toNat)
      (MP.write (JW.place s) (r.encode s.jw.seq s.dt.clock) s)).mem := rfl

theorem set_journal (s : State) : NU.set .journal s = { s with notice := s.notice ||| 2#8 } := by
  simp [NU.set, Flag.bit]

theorem set_journalHigh (s : State) : NU.set .journalHigh s = { s with notice := s.notice ||| 4#8 } := by
  simp [NU.set, Flag.bit]

/-- A record leaves the other blocks as they are. -/
theorem recorded_eq (r : RecordBody) (s : State) :
    recorded r s = { s with
      jw := { s.jw with seq := JW.nextSeq s.jw.seq, written := s.jw.written + 1 }
      notice := s.notice ||| 2#8, mem := (recorded r s).mem } := by
  unfold recorded
  generalize field 4 _ = count, r.encode _ _ = record
  rw [set_journal]
  rfl

theorem write_mem (r : RecordBody) (s : State) : (JW.write r s).mem = (recorded r s).mem := by
  rw [write_eq_recorded]
  split <;> rfl

theorem sameBytes_write {n : Nat} {s : State} (h : Room n s) (r : RecordBody) :
    SameBytes (JW.bytes s) s (JW.write r s) := by
  obtain ⟨lo, hi, -, -, hbase, hhi, hend⟩ := h.placed
  obtain ⟨hlow, hhigh⟩ := h.place
  intro x hx
  rw [write_mem, recorded_mem,
    get_write_apart (by simp [offsetWritten, Config.memorySize]) (fun hw => hx (.inr (by simpa using hw))),
    get_write_apart (by simp; omega) (fun hp => hx (.inl (by simpa using hp)))]

theorem holds_write {n : Nat} {s : State} (h : Room n s) (r : RecordBody) :
    JW.Holds r s.dt.clock s (JW.write r s) := by
  obtain ⟨lo, hi, hwin, hlo, hbase, hhi, hend⟩ := h.placed
  obtain ⟨hlow, hhigh⟩ := h.place
  have hself : (MP.write (JW.place s) (r.encode s.jw.seq s.dt.clock) s).mem.bytes (JW.place s) 64
      = r.encode s.jw.seq s.dt.clock := by
    simpa using bytes_write_self h.wf hwin (a := JW.place s) (bs := r.encode s.jw.seq s.dt.clock)
      (by simp only [offsetWritten] at hlo; omega) (by simp; omega) hend
  rw [JW.Holds, write_mem, recorded_mem, bytes_write_apart (by simp [offsetWritten, Config.memorySize]) (by omega)
    (.inl (by simp [offsetWritten]; omega)), hself]

/-- The host's `collected` lies beside the bytes of a record. -/
theorem Room.collected {n : Nat} {s t : State} (h : Room n s) (hsame : SameBytes (JW.bytes s) s t) :
    MP.read t offsetCollected 4 = MP.read s offsetCollected 4 := by
  obtain ⟨lo, hi, -, -, hbase, hhi, hend⟩ := h.placed
  obtain ⟨hlow, hhigh⟩ := h.place
  refine congrArg leNat (bytes_congr (by simp [offsetCollected, Config.memorySize]) (fun x hx => hsame x (fun hb => ?_)))
  simp only [JW.bytes, within, offsetCollected, offsetWritten] at hb hx
  omega

/-- After one record more, the host's `collected` standing, one record less is free (R169). -/
theorem Room.used_succ {n : Nat} {s t : State} (h : Room (n + 1) s) (hwritten : t.jw.written = s.jw.written + 1)
    (hsame : SameBytes (JW.bytes s) s t) : JW.used t = JW.used s + 1 := by
  have hlt : JW.used s < 4294967295 := by
    have := h.used
    have := h.le_capacity
    omega
  unfold JW.used at *
  rw [hwritten, h.collected hsame]
  bv_omega

/-- A record written leaves the state with one more record counted, but for counter memory (R170). -/
theorem write_eq_counted {n : Nat} {s : State} (h : Room (n + 1) s) (r : RecordBody) :
    JW.write r s = { JW.counted s with mem := (JW.write r s).mem } := by
  have hsame : SameBytes (JW.bytes s) s (recorded r s) := fun x hx => by
    rw [← write_mem]
    exact sameBytes_write h r x hx
  have hfree : JW.free (recorded r s) + 1 = JW.free s := by
    have hused := h.used_succ (t := recorded r s) rfl hsame
    have hroom := h.used
    have hcap : (recorded r s).jw.capacity = s.jw.capacity := rfl
    unfold JW.free
    omega
  rw [write_mem, write_eq_recorded, JW.counted]
  by_cases hhigh : JW.free s ≤ s.jw.highMark + 1
  · have hor : s.notice ||| 2#8 ||| 4#8 = s.notice ||| 6#8 := by rw [BitVec.or_assoc]; rfl
    rw [if_pos (by omega), if_pos hhigh, ← hor, set_journalHigh, recorded_eq]
  · rw [if_neg (by omega), if_neg hhigh, recorded_eq]

/-- A record written takes one free record and leaves the rest of the room. -/
theorem Room.write {n : Nat} {s : State} (h : Room (n + 1) s) (r : RecordBody) : Room n (JW.write r s) := by
  have hstate := write_eq_counted h r
  have hjw : (JW.write r s).jw = (JW.counted s).jw := by rw [hstate]
  have hused : JW.used (JW.write r s) = JW.used s + 1 := h.used_succ (by rw [hjw]; rfl) (sameBytes_write h r)
  have hroom := h.used
  refine ⟨(JW.write_kept (.refl s) r).form h.wf, hjw ▸ h.hold, hjw ▸ h.fault, ?_, hjw ▸ h.capacity, ?_⟩
  · rw [hjw]
    exact (by omega : JW.used (JW.write r s) + n ≤ s.jw.capacity)
  · rw [(JW.write_kept (.refl s) r).window, hjw]
    exact h.placed

/-! ### Two records in turn -/

/-- The place of the next record does not meet the place of the one after it. -/
theorem Room.places_apart {n : Nat} {s : State} (h : Room n s) {x : Nat} (hx : within (JW.place s) 64 x) :
    ¬JW.bytes (JW.counted s) x := by
  obtain ⟨lo, hi, -, -, hbase, hhi, hend⟩ := h.placed
  obtain ⟨hlow, hhigh⟩ := h.place
  have hne : (s.jw.written + 1).toNat % s.jw.capacity ≠ s.jw.written.toNat % s.jw.capacity := by
    have hcap := h.capacity
    have hw := s.jw.written.isLt
    simp only [List.mem_cons, List.not_mem_nil, or_false] at hcap
    rw [BitVec.toNat_add]
    rcases hcap with hc | hc | hc | hc | hc | hc <;> rw [hc] <;> simp <;> omega
  have hnext : JW.place (JW.counted s) = s.jw.base + 64 * ((s.jw.written + 1).toNat % s.jw.capacity) := rfl
  have hplace : JW.place s = s.jw.base + 64 * (s.jw.written.toNat % s.jw.capacity) := rfl
  simp only [JW.bytes, within, offsetWritten, hnext] at hx ⊢
  omega

/-- What counting a record does depends on counter memory by the host's `collected` alone. -/
theorem counted_withMem {s : State} {m : Memory}
    (h : MP.read { s with mem := m } offsetCollected 4 = MP.read s offsetCollected 4) :
    JW.counted { s with mem := m } = { JW.counted s with mem := m } := by
  have hfree : JW.free { s with mem := m } = JW.free s := by simp only [JW.free, JW.used, h]
  simp only [JW.counted, hfree]

/-- Two class C records offered with room for both. -/
theorem offerC_offerC {s : State} (h : Room 2 s) (r q : RecordBody) :
    let t := JW.offerC q (JW.offerC r s)
    t = { JW.counted (JW.counted s) with mem := t.mem }
      ∧ SameBytes (fun x => JW.bytes s x ∨ JW.bytes (JW.counted s) x) s t
      ∧ JW.HoldsAll [r, q] s.dt.clock s t := by
  intro t
  have hfirst : Room 1 (JW.write r s) := h.write r
  have ht : t = JW.write q (JW.write r s) := by
    change JW.offerC q (JW.offerC r s) = _
    rw [h.offerC, hfirst.offerC]
  have hstate := write_eq_counted h r
  have hsame := sameBytes_write h r
  have hsame' := sameBytes_write hfirst q
  have hholds' := holds_write hfirst q
  have hcounted : JW.counted (JW.write r s) = { JW.counted (JW.counted s) with mem := (JW.write r s).mem } := by
    rw [hstate]
    exact counted_withMem (h.collected hsame)
  have hbytes : JW.bytes (JW.write r s) = JW.bytes (JW.counted s) := by
    rw [hstate]
    rfl
  rw [hbytes, ← ht] at hsame'
  refine ⟨?_, fun x hx => ?_, ?_, ?_, trivial⟩
  · rw [ht, write_eq_counted hfirst, hcounted]
  · rw [hsame' x (fun hb => hx (.inr hb)), hsame x (fun hb => hx (.inl hb))]
  · obtain ⟨lo, hi, -, -, hbase, hhi, hend⟩ := h.placed
    obtain ⟨hlow, hhigh⟩ := h.place
    rw [JW.Holds, bytes_congr (by omega) (fun x hx => hsame' x (h.places_apart hx))]
    exact holds_write h r
  · rw [ht]
    rw [hstate] at hholds' ⊢
    exact hholds'

/-! ## Requests at the lanes -/

/-! ### The request a row takes (R165, R166) -/

/-- A lane with a request that a sweep may take is looked at without a change (R162). -/
theorem look_of_hasRequest {ln : Lane} {s : State} (h : LU.hasRequest ln s = true) : LU.look ln s = (s, true) := by
  simp only [LU.hasRequest, Bool.and_eq_true, Bool.not_eq_true'] at h
  obtain ⟨⟨hfault, hconsistent⟩, hposted⟩ := h
  simp [LU.look, hfault, hconsistent, hposted]

/-- A lane with nothing for a sweep is looked at without a change (R162). -/
theorem look_of_hasNone {ln : Lane} {s : State} (h : LU.hasNone ln s = true) : LU.look ln s = (s, false) := by
  cases hfault : (s.lane ln).fault with
  | true => simp [LU.look, hfault]
  | false =>
    simp only [LU.hasNone, hfault, Bool.false_or, Bool.and_eq_true, beq_iff_eq] at h
    obtain ⟨hconsistent, hposted⟩ := h
    simp [LU.look, hfault, hconsistent, hposted]

/-- What `LU.takes` says, with its parts named. -/
theorem takes_iff {ln : Lane} {isKind : Nat → Bool} {s : State} :
    LU.takes ln isKind s = true ↔ s.running = true ∧ LU.hasRequest ln s = true ∧ isKind (LU.kindAt ln s) = true
      ∧ (∃ w, s.lu.sweep = some w ∧ w.opened = true ∧ w.routineTaken < s.lu.routineBurst)
      ∧ (ln = .routine → LU.hasNone .urgent s = true) := by
  cases ln <;> simp [LU.takes, Option.any_eq_true, and_assoc]

/-- A request row takes the next request when that request has its kind (log 7). -/
theorem takeRequest_of_takes {ln : Lane} {isKind : Nat → Bool} {s : State} (h : LU.takes ln isKind s = true) :
    LU.takeRequest isKind s = LU.takeOne ln s := by
  obtain ⟨hrun, hrequest, hkind, ⟨w, hsweep, hopened, hburst⟩, hurgent⟩ := takes_iff.mp h
  have hopen : LU.openSweep s = s := by simp [LU.openSweep, hsweep, hopened]
  have hnext : LU.nextLane s = (s, some ln) := by
    cases ln with
    | urgent => simp [LU.nextLane, hsweep, hburst, look_of_hasRequest hrequest]
    | routine => simp [LU.nextLane, hsweep, hburst, look_of_hasNone (hurgent rfl), look_of_hasRequest hrequest]
  simp [LU.takeRequest, hrun, hsweep, hopen, hnext, hkind]

/-! ### Where a lane lies (R155) -/

/-- What `LU.placed` says, with its parts named. -/
structure Placed (ln : Lane) (s : State) (lo hi : Nat) : Prop where
  wf : s.mem.wf = true
  window : s.window = some (lo, hi)
  words : lo ≤ ln.words + 12
  slot : 256 ≤ LU.slot (s.lane ln)
  slotEnd : LU.slot (s.lane ln) + 64 ≤ hi
  fits : hi ≤ Config.memorySize

theorem placed_of {ln : Lane} {s : State} (h : LU.placed ln s = true) : ∃ lo hi, Placed ln s lo hi := by
  cases hwin : s.window with
  | none => simp [LU.placed, hwin] at h
  | some w =>
    simp only [LU.placed, hwin, Bool.and_eq_true, decide_eq_true_eq] at h
    obtain ⟨hwf, hwords, hcap, hbase, hend, hfits⟩ := h
    have hmod := Nat.mod_lt (s.lane ln).taken.toNat hcap
    refine ⟨w.1, w.2, hwf, hwin, hwords, ?_, ?_, hfits⟩
    · unfold LU.slot
      omega
    · unfold LU.slot
      omega

theorem words_le (ln : Lane) : ln.words ≤ 40 := by
  cases ln <;> simp [Lane.words]

/-! ### Taking a request (R166) -/

/-- The owner's state `u` over counter memory and the lanes as they are once the request is taken (R166, step 2). -/
def taking (ln : Lane) (s u : State) : State :=
  { u with mem := (LU.advanceTaken ln s).mem, lu := (LU.advanceTaken ln s).lu }

theorem advanceTaken_eq (ln : Lane) (s : State) : LU.advanceTaken ln s = taking ln s s := by
  cases ln <;> rfl

/-- The three writes of a served request, the owner having written nothing in between: the `taken` word, the answer half and the
`answered` word (R166, steps 2, 7 and 8). -/
theorem answer_mem (ln : Lane) (slot : Nat) (a : Answer) {s u : State} (hwin : u.window = s.window) :
    (LU.answer ln slot a (taking ln s u)).mem
      = (MP.write (ln.words + 16) (field 4 ((s.lane ln).answered + 1).toNat) (MP.write (slot + 32) a.bytes
          (MP.write (ln.words + 12) (field 4 ((s.lane ln).taken + 1).toNat) s))).mem := by
  have htaken : (taking ln s u).mem = (MP.write (ln.words + 12) (field 4 ((s.lane ln).taken + 1).toNat) s).mem := by
    cases ln <;> rfl
  have hanswered : (((MP.write (slot + 32) a.bytes (taking ln s u)).modLane ln
      (fun k => { k with answered := k.answered + 1 })).lane ln).answered = (s.lane ln).answered + 1 := by
    cases ln <;> rfl
  have hhalf : (MP.write (slot + 32) a.bytes (taking ln s u)).mem = (MP.write (slot + 32) a.bytes
      (MP.write (ln.words + 12) (field 4 ((s.lane ln).taken + 1).toNat) s)).mem :=
    write_mem_congr htaken hwin _ _
  have hcount : (LU.answer ln slot a (taking ln s u)).mem = (MP.write (ln.words + 16)
      (field 4 ((s.lane ln).answered + 1).toNat) (MP.write (slot + 32) a.bytes (taking ln s u))).mem := by
    rw [← hanswered]
    cases ln <;> rfl
  rw [hcount]
  exact write_mem_congr hhalf hwin _ _

/-- What the three writes leave, in a lane that lies as R155 has it. -/
theorem answer_words {ln : Lane} {s u : State} {lo hi : Nat} (h : Placed ln s lo hi) (hwin : u.window = s.window) (a : Answer) :
    let y := LU.answer ln (LU.slot (s.lane ln)) a (taking ln s u)
    y.mem.bytes (LU.slot (s.lane ln) + 32) 32 = a.bytes
      ∧ y.mem.num (ln.words + 12) 4 = ((s.lane ln).taken + 1).toNat
      ∧ y.mem.num (ln.words + 16) 4 = ((s.lane ln).answered + 1).toNat
      ∧ SameBytes (LU.bytes ln s) s y := by
  have hwords := words_le ln
  obtain ⟨hwf, hwindow, hlo, hslot, hslotEnd, hfits⟩ := h
  have hsize : Config.memorySize = 262144 := rfl
  have hself {x : State} (hx : Kept s x) {b : Nat} {bs : List Byte} (hb : ln.words + 12 ≤ b) (hend : b + bs.length ≤ hi) :
      (MP.write b bs x).mem.bytes b bs.length = bs :=
    bytes_write_self (hx.form hwf) (hx.window.trans hwindow) (by omega) hend hfits
  have hkept1 := MP.write_kept (.refl s) (ln.words + 12) (field 4 ((s.lane ln).taken + 1).toNat)
  have hkept2 := MP.write_kept hkept1 (LU.slot (s.lane ln) + 32) a.bytes
  have hword1 := hself (.refl s) (b := ln.words + 12) (bs := field 4 ((s.lane ln).taken + 1).toNat)
    (by omega) (by simp; omega)
  have hword2 := hself hkept1 (b := LU.slot (s.lane ln) + 32) (bs := a.bytes) (by omega) (by simp; omega)
  have hword3 := hself hkept2 (b := ln.words + 16) (bs := field 4 ((s.lane ln).answered + 1).toNat)
    (by omega) (by simp; omega)
  rw [length_field] at hword1 hword3
  rw [length_answer_bytes] at hword2
  refine ⟨?_, ?_, ?_, fun c hc => ?_⟩
  · rw [answer_mem _ _ _ hwin, bytes_write_apart (by simp; omega) (by omega) (.inl (by simp; omega)), hword2]
  · rw [answer_mem _ _ _ hwin, Memory.num, bytes_write_apart (by simp; omega) (by omega) (.inr (by omega)),
      bytes_write_apart (by simp; omega) (by omega) (.inr (by omega)), hword1, leNat_field_count]
  · rw [answer_mem _ _ _ hwin, Memory.num, hword3, leNat_field_count]
  · have hapart : ¬within (ln.words + 16) 4 c ∧ ¬within (LU.slot (s.lane ln) + 32) 32 c ∧ ¬within (ln.words + 12) 4 c := by
      simp only [LU.bytes, within] at hc ⊢
      omega
    obtain ⟨hapart3, hapart2, hapart1⟩ := hapart
    rw [answer_mem _ _ _ hwin, get_write_apart (by simp; omega) (by simpa using hapart3),
      get_write_apart (by simp; omega) (by simpa using hapart2), get_write_apart (by simp; omega) (by simpa using hapart1)]

/-- The lanes after an answer: taken and answered are both one higher (R166). -/
theorem answer_lu (ln : Lane) (slot : Nat) (a : Answer) (s u : State) :
    (LU.answer ln slot a (taking ln s u)).lu
      = (s.modLane ln (fun k => { k with taken := k.taken + 1, answered := k.answered + 1 })).lu := by
  cases ln <;> rfl

theorem set_answered (s : State) : NU.set .answered s = { s with notice := s.notice ||| 1#8 } := by
  simp [NU.set, Flag.bit]

/-- What an answer leaves of the owner's state `u`, beside counter memory and the lanes. -/
theorem answer_eq (ln : Lane) (slot : Nat) (a : Answer) (s u : State) :
    let y := LU.answer ln slot a (taking ln s u)
    y = { u with mem := y.mem, lu := y.lu, notice := u.notice ||| 1#8 } := by
  unfold LU.answer LU.writeCount
  generalize a.bytes = half, field 4 _ = count
  rw [set_answered]
  cases ln <;> rfl

theorem countRoutine_eq (ln : Lane) (s : State) :
    LU.countRoutine ln s = { s with lu := (LU.countRoutine ln s).lu } := by
  cases ln <;> rfl

theorem countRoutine_lu_congr {s t : State} (ln : Lane) (h : s.lu = t.lu) :
    (LU.countRoutine ln s).lu = (LU.countRoutine ln t).lu := by
  cases ln <;> simp [LU.countRoutine, h]

theorem onlyDisplays_withLu {u t : State} (h : OnlyDisplays u t) (lu : LaneUnit) :
    OnlyDisplays { u with lu := lu } { t with lu := lu } :=
  ⟨congrArg (fun v : State => { v with lu := lu }) h.1, h.2⟩

/-- A request whose owner writes no byte and leaves the lanes as they are is served as R166 says. -/
theorem served_of_quiet {ln : Lane} {s u : State} {a : Answer} (hplaced : LU.placed ln s = true)
    (hwin : u.window = s.window) (hserve : serve (LU.request ln s) (taking ln s s) = (taking ln s u, a)) :
    LU.Served ln a noBytes s u (LU.takeOne ln s) := by
  obtain ⟨lo, hi, hplace⟩ := placed_of hplaced
  obtain ⟨hhalf, htaken, hanswered, hsame⟩ := answer_words hplace hwin a
  have hlu := answer_lu ln (LU.slot (s.lane ln)) a s u
  have hstate := answer_eq ln (LU.slot (s.lane ln)) a s u
  have htake : LU.takeOne ln s
      = LU.countRoutine ln (SD.flush (LU.answer ln (LU.slot (s.lane ln)) a (taking ln s u))) := by
    rw [LU.takeOne, advanceTaken_eq, hserve]
  rw [htake]
  generalize LU.answer ln (LU.slot (s.lane ln)) a (taking ln s u) = y at *
  have hmem : (LU.countRoutine ln (SD.flush y)).mem = y.mem := by rw [countRoutine_eq, flush_mem]
  refine ⟨countRoutine_lu_congr ln ((flush_lu y).trans hlu), ?_, ?_, ?_, fun x hx => ?_, ?_⟩
  · rw [hmem, hhalf]
  · rw [hmem, htaken]
  · rw [hmem, hanswered]
  · rw [hmem]
    exact hsame x (fun hb => hx (.inl hb))
  · have hdisplays := onlyDisplays_withLu (onlyDisplays_flush y) (LU.countRoutine ln (SD.flush y)).lu
    rw [← countRoutine_eq] at hdisplays
    rw [hmem]
    generalize LU.countRoutine ln (SD.flush y) = t at hdisplays ⊢
    rw [hstate] at hdisplays
    exact hdisplays

/-! ## CONTROL (R157, R158) -/

theorem exec_start (s : State) : exec .start s = .next (Control.write 1 s) := rfl

theorem exec_halt (s : State) : exec .halt s = .next (Control.write 2 s) := rfl

theorem exec_rearmLanes (s : State) : exec .rearmLanes s = .next (Control.write 4 s) := rfl

theorem exec_controlUnknownCode (code : Word) (s : State) :
    exec (.controlUnknownCode code) s = .next (Control.write code s) := rfl

theorem write_start {s : State} (hpin : s.resetPin = false) : Control.write 1 s = Control.start s := by
  simp [Control.write, hpin]

theorem write_halt {s : State} (hpin : s.resetPin = false) : Control.write 2 s = Control.halt s := by
  simp [Control.write, hpin]

theorem write_rearm {s : State} (hpin : s.resetPin = false) : Control.write 4 s = Control.rearm s := by
  simp [Control.write, hpin]

theorem write_unnamed {s : State} (hpin : s.resetPin = false) {code : Word} (hcode : namedControlCode code = false) :
    Control.write code s = s.setError .unknownCode := by
  simp only [namedControlCode, Bool.or_eq_false_iff, beq_eq_false_iff_ne] at hcode
  obtain ⟨⟨⟨hstart, hhalt⟩, hreset⟩, hrearm⟩ := hcode
  rw [Control.write, if_neg (by simp [hpin]), if_neg hstart, if_neg hhalt, if_neg hreset, if_neg hrearm]

/-- R61: clearing PRICE_FAULT changes the fault and, when it was set, the PRICE flag. -/
theorem clearFault_eq (s : State) :
    PU.clearFault s
      = { s with pu := { s.pu with fault := false }, notice := s.notice ||| (if s.pu.fault then 0x40#8 else 0#8) } := by
  cases h : s.pu.fault with
  | true => simp [PU.clearFault, NU.set, h, Flag.bit]
  | false =>
    have hpu : ({ s.pu with fault := false } : PriceUnit) = s.pu := by rw [← h]
    simp [PU.clearFault, h, hpu]

/-- R158 with R61: what a halt taken in RUNNING leaves. -/
theorem haltPart_eq {s : State} (hpin : s.resetPin = false) :
    s.haltPart = { State.reset with
      pending := s.pending, service := s.service, mem := s.mem, freeIndex := s.freeIndex
      notice := s.notice ||| (if s.pu.fault then 0x40#8 else 0#8)
      route := s.route, startFault := s.startFault } := by
  rw [State.haltPart, clearFault_eq]
  simp [State.resetBlocks, State.reset, hpin]

/-- R158: the two refusals of a HALT in RUNNING, and the halt. -/
theorem halt_running {s : State} (hpart : s.part = .running) :
    Control.halt s =
      if s.dt.day ≠ .closed then s.setError .dayOpen
      else if s.jw.hold ≠ [] then s.setError .held
      else s.haltPart := by
  rw [Control.halt, hpart]

/-- Settles O7, by the part state for the table, by the day and the hold for a HALT in RUNNING. -/
theorem controlFollowsItsTable : Obligations.ControlFollowsItsTable := by
  unfold Obligations.ControlFollowsItsTable
  refine ⟨fun s hpin => ?_, fun s hpin hpart => ?_⟩
  · rw [exec_start, exec_halt, exec_rearmLanes, write_start hpin, write_halt hpin, write_rearm hpin]
    refine ⟨fun hhalted => ?_, fun hstarting => ?_, fun hrunning => ?_, fun hfaulted => ?_, fun code hcode => ?_⟩
    · simp [Control.start, Control.halt, Control.rearm, State.setError, hhalted]
    · simp [Control.start, Control.halt, Control.rearm, State.setError, hstarting]
    · simp [Control.start, State.setError, hrunning]
    · simp [Control.start, Control.halt, Control.rearm, State.setError, hfaulted]
    · rw [exec_controlUnknownCode, write_unnamed hpin hcode, State.setError]
  · rw [exec_halt, write_halt hpin, halt_running hpart]
    refine ⟨fun hday => ?_, fun hday hhold => ?_, fun hday hhold => ?_⟩
    · rw [if_pos hday, State.setError]
    · rw [if_neg (not_not.mpr hday), if_pos hhold, State.setError]
    · rw [if_neg (not_not.mpr hday), if_neg (not_not.mpr hhold), haltPart_eq hpin]

/-! ## SWITCH_PRICES and CHECK_PRICES -/

/-! ### The price requests (R53, R54) -/

theorem exec_switchPrices {ln : Lane} {s : State} (h : LU.takes ln (fun k => k == 6) s = true) :
    exec .switchPrices s = .next (LU.takeOne ln s) :=
  congrArg Host.Outcome.next (takeRequest_of_takes h)

theorem exec_checkPrices {ln : Lane} {s : State} (h : LU.takes ln (fun k => k == 7) s = true) :
    exec .checkPrices s = .next (LU.takeOne ln s) :=
  congrArg Host.Outcome.next (takeRequest_of_takes h)

theorem kindAt_of_takes {ln : Lane} {n : Nat} {s : State} (h : LU.takes ln (fun k => k == n) s = true) :
    LU.kindAt ln s = n := by
  obtain ⟨-, -, hkind, -, -⟩ := takes_iff.mp h
  exact beq_iff_eq.mp hkind

@[simp] theorem taking_pu (ln : Lane) (s u : State) : (taking ln s u).pu = u.pu := rfl

@[simp] theorem reservationMet_taking (n : Nat) (ln : Lane) (s u : State) :
    JW.reservationMet n (taking ln s u) = JW.reservationMet n u := rfl

theorem startJob_taking (j : PriceJob) (id : RequestId) (ln : Lane) (s u : State) :
    PU.startJob j id (taking ln s u) = taking ln s (PU.startJob j id u) := rfl

/-- SWITCH_PRICES goes to its owner (R166, step 3). -/
theorem serve_switchPrices {ln : Lane} {s : State} (h : LU.kindAt ln s = 6) (x : State) :
    serve (LU.request ln s) x = serveSwitchPrices (LU.request ln s) x := by
  have hkind : (LU.request ln s).kind = 6 := h
  simp only [serve, hkind]

/-- CHECK_PRICES goes to its owner (R166, step 3). -/
theorem serve_checkPrices {ln : Lane} {s : State} (h : LU.kindAt ln s = 7) (x : State) :
    serve (LU.request ln s) x = serveCheckPrices (LU.request ln s) x := by
  have hkind : (LU.request ln s).kind = 7 := h
  simp only [serve, hkind]

theorem one_lt_of_firstBadParam {ln : Lane} {s : State} (h : LU.kindAt ln s = 6) (hbad : firstBadParam ln s ≠ 0) :
    1 < LU.param ln 1 s ∧ firstBadParam ln s = 1 := by
  have hfirst : firstBadParam ln s = if 1 < LU.param ln 1 s then 1 else 0 := by simp only [firstBadParam, h]
  by_cases hbank : 1 < LU.param ln 1 s
  · exact ⟨hbank, by rw [hfirst, if_pos hbank]⟩
  · exact absurd (by rw [hfirst, if_neg hbank]) hbad

/-- R53, in the three cases of its list. -/
theorem switchPrices_served {ln : Lane} {s : State} (hplaced : LU.placed ln s = true) (hkind : LU.kindAt ln s = 6) :
    (1 < LU.param ln 1 s → LU.Served ln (.badParam 1) noBytes s s (LU.takeOne ln s))
    ∧ (LU.param ln 1 s ≤ 1 → s.pu.job.isSome = true → LU.Served ln (.of .busy) noBytes s s (LU.takeOne ln s))
    ∧ (LU.param ln 1 s ≤ 1 → JW.reservationMet 2 s = true → s.pu.job = none →
      LU.Served ln (.of .started) noBytes s
        (PU.startJob { type := .switch, bank := if LU.param ln 1 s = 0 then .a else .b, count := LU.param ln 2 s,
                       crc := BitVec.ofNat 32 (LU.param ln 3 s) } (LU.request ln s).id s) (LU.takeOne ln s)) := by
  have hbank : (LU.request ln s).p 1 = LU.param ln 1 s := rfl
  refine ⟨fun hbad => ?_, fun hgood hjob => ?_, fun hgood hroom hjob => ?_⟩
  · refine served_of_quiet hplaced rfl ?_
    rw [serve_switchPrices hkind, serveSwitchPrices, hbank, if_pos hbad]
  · refine served_of_quiet hplaced rfl ?_
    rw [serve_switchPrices hkind, serveSwitchPrices, hbank, if_neg (by omega), if_pos (.inr hjob)]
  · refine served_of_quiet hplaced rfl ?_
    rw [serve_switchPrices hkind, serveSwitchPrices, hbank, if_neg (by omega), if_neg (by simp [hroom, hjob]),
      startJob_taking]
    rfl

/-- R54, in the three cases of its list. -/
theorem checkPrices_served {ln : Lane} {s : State} (hplaced : LU.placed ln s = true) (hkind : LU.kindAt ln s = 7) :
    (s.pu.job.isSome = true → LU.Served ln (.of .busy) noBytes s s (LU.takeOne ln s))
    ∧ (JW.reservationMet 1 s = true → s.pu.job = none → s.pu.active = none →
      LU.Served ln (.of .wrongState) noBytes s s (LU.takeOne ln s))
    ∧ (∀ k, JW.reservationMet 1 s = true → s.pu.job = none → s.pu.active = some k →
      LU.Served ln (.of .started) noBytes s
        (PU.startJob { type := .check, bank := k, count := s.pu.count, crc := s.pu.crc } (LU.request ln s).id s)
        (LU.takeOne ln s)) := by
  refine ⟨fun hjob => ?_, fun hroom hjob hactive => ?_, fun k hroom hjob hactive => ?_⟩
  · refine served_of_quiet hplaced rfl ?_
    rw [serve_checkPrices hkind, serveCheckPrices, if_pos (.inr hjob)]
  · refine served_of_quiet hplaced rfl ?_
    simp [serve_checkPrices hkind, serveCheckPrices, hroom, hjob, hactive]
  · refine served_of_quiet hplaced rfl ?_
    simp [serve_checkPrices hkind, serveCheckPrices, hroom, hjob, hactive, startJob_taking]

/-- Settles O21, by the request's kind and the cases of R53 and R54. -/
theorem priceRequestsStartAJob : Obligations.PriceRequestsStartAJob := by
  unfold Obligations.PriceRequestsStartAJob
  intro ln s hplaced
  refine ⟨fun k hk htakes hbad => ?_, fun htakes hgood hroom => ?_, fun htakes hroom => ?_⟩
  · obtain rfl := List.mem_singleton.mp hk
    obtain ⟨hbank, hfirst⟩ := one_lt_of_firstBadParam (kindAt_of_takes htakes) hbad
    rw [hfirst]
    exact ⟨_, exec_switchPrices htakes, (switchPrices_served hplaced (kindAt_of_takes htakes)).1 hbank⟩
  · obtain ⟨-, hbusy, hstart⟩ := switchPrices_served hplaced (kindAt_of_takes htakes)
    exact ⟨fun hjob => ⟨_, exec_switchPrices htakes, hbusy hgood hjob⟩,
      fun hjob => ⟨_, exec_switchPrices htakes, hstart hgood hroom hjob⟩⟩
  · obtain ⟨hbusy, hwrong, hstart⟩ := checkPrices_served hplaced (kindAt_of_takes htakes)
    exact ⟨fun hjob => ⟨_, exec_checkPrices htakes, hbusy hjob⟩,
      fun hjob hactive => ⟨_, exec_checkPrices htakes, hwrong hroom hjob hactive⟩,
      fun k hjob hactive => ⟨_, exec_checkPrices htakes, hstart k hroom hjob hactive⟩⟩

/-! ## Completions of price jobs -/

/-! ### Reports to every station -/

/-- A report `g` made at each of `sts`, which changes the dialogue of its station by `f` and may tell the station. -/
theorem foldl_dialogues {f : Dialogue → Dialogue} {g : State → Station → State}
    (hg : ∀ s st, g s st = { s.modDialogue st f with told := (g s st).told }) (sts : List Station) (hnodup : sts.Nodup)
    (s : State) :
    sts.foldl g s
      = { s with sd := Vector.ofFn (fun st => if st ∈ sts then f s.sd[st] else s.sd[st]), told := (sts.foldl g s).told } := by
  induction sts generalizing s with
  | nil => simp
  | cons st sts ih =>
    obtain ⟨hst, hnodup⟩ := List.nodup_cons.mp hnodup
    have hsd : Vector.ofFn (fun x => if x ∈ sts then f (g s st).sd[x] else (g s st).sd[x])
        = Vector.ofFn (fun x => if x ∈ st :: sts then f s.sd[x] else s.sd[x]) := by
      ext i hi
      have hread : (g s st).sd = s.sd.set st.val (f s.sd[st]) st.isLt := by rw [hg]; rfl
      by_cases hx : (⟨i, hi⟩ : Station) = st
      · subst hx
        simp [hst, hread]
      · have hne : st.val ≠ i := fun h => hx (Fin.ext h.symm)
        simp [hx, hread, hne]
    have hrest := ih hnodup (g s st)
    have hstep (sd : Vector Dialogue 8) (told : Vector Bool 8) :
        ({ g s st with sd := sd, told := told } : State) = { s with sd := sd, told := told } := by
      rw [hg s st]
      rfl
    rw [hsd, hstep] at hrest
    exact hrest

/-- A report made at every station. -/
theorem foldl_stations {f : Dialogue → Dialogue} {g : State → Station → State}
    (hg : ∀ s st, g s st = { s.modDialogue st f with told := (g s st).told }) (s : State) :
    stations.foldl g s
      = { s with sd := Vector.ofFn (fun st => f s.sd[st]), told := (stations.foldl g s).told } := by
  have hall : ∀ st : Station, st ∈ stations := by decide
  have hfold := foldl_dialogues hg stations (by decide) s
  simpa only [hall, if_true] using hfold

theorem reportAll_eq (f : Dialogue → Dialogue) (s : State) :
    SD.reportAll f s = { s with sd := Vector.ofFn (fun st => f s.sd[st]), told := (SD.reportAll f s).told } :=
  foldl_stations (fun _ _ => rfl) s

/-- R42, R61: setting PRICE_FAULT when it is clear sets the PRICE flag and takes each station out of RUN mode. -/
theorem setFault_eq (s : State) :
    PU.setFault s
      = { s with
          pu := { s.pu with fault := true }
          notice := s.notice ||| (if s.pu.fault then 0#8 else 0x40#8)
          sd := if s.pu.fault then s.sd else Vector.ofFn (fun st =>
            if s.sd[st].mode = .normal then s.sd[st]
            else { s.sd[st] with mode := .normal, transient := some .priceFault })
          told := (PU.setFault s).told } := by
  cases hfault : s.pu.fault with
  | true =>
    have hpu : ({ s.pu with fault := true } : PriceUnit) = s.pu := by rw [← hfault]
    simp [PU.setFault, hfault, hpu]
  | false =>
    have hset : PU.setFault s
        = SD.reportAll Dialogue.priceFaultSet (NU.set .price { s with pu := { s.pu with fault := true } }) := by
      simp [PU.setFault, hfault]
    rw [hset]
    exact reportAll_eq _ _

/-! ### The end of a price job (R57, R58) -/

/-- Room in the journal depends on counter memory, the Journal Writer and the window alone. -/
theorem Room.of_same {n : Nat} {s t : State} (h : Room n s) (hmem : t.mem = s.mem) (hjw : t.jw = s.jw)
    (hwin : t.window = s.window) : Room n t := by
  have hused : JW.used t = JW.used s := by simp only [JW.used, MP.read, hmem, hjw]
  obtain ⟨hwf, hhold, hfault, hroom, hcap, hplaced⟩ := h
  rw [← hused] at hroom
  rw [← hjw] at hhold hfault hroom hcap hplaced
  rw [← hwin] at hplaced
  exact ⟨hmem ▸ hwf, hhold, hfault, hroom, hcap, hplaced⟩

theorem Room.clearFault {n : Nat} {s : State} (h : Room n s) : Room n (PU.clearFault s) := by
  rw [clearFault_eq]
  exact h.of_same rfl rfl rfl

theorem Room.setFault {n : Nat} {s : State} (h : Room n s) : Room n (PU.setFault s) := by
  rw [setFault_eq]
  exact h.of_same rfl rfl rfl

theorem exec_switchCompletion {s : State} (h : s.running = true) :
    exec .switchCompletion s = .next (SD.flush (PU.completeSwitch s)) := by
  change Host.Outcome.next (SD.flush (s.whenRunning PU.completeSwitch)) = _
  rw [State.whenRunning, if_pos h]

theorem exec_checkCompletion {s : State} (h : s.running = true) :
    exec .checkCompletion s = .next (SD.flush (PU.completeCheck s)) := by
  change Host.Outcome.next (SD.flush (s.whenRunning PU.completeCheck)) = _
  rw [State.whenRunning, if_pos h]

/-- An event that ends with one record offered with room and the job made IDLE: the record is counted and stands. -/
theorem idle_offerC {v : State} (h : Room 1 v) (r : RecordBody) :
    let t := SD.flush (PU.idle (JW.offerC r v))
    OnlyDisplays { JW.counted (PU.idle v) with mem := t.mem } t ∧ SameBytes (JW.bytes v) v t ∧ JW.Holds r v.dt.clock v t := by
  have hidle : PU.idle (JW.offerC r v)
      = { JW.counted (PU.idle v) with mem := (JW.write r v).mem, told := (JW.counted v).told } := by
    rw [h.offerC, write_eq_counted h]
    rfl
  obtain ⟨hmem, hdisplays⟩ := onlyDisplays_flush_of_eq hidle
  refine ⟨hdisplays, fun x hx => ?_, ?_⟩
  · rw [hmem, sameBytes_write h r x hx]
  · rw [JW.Holds, hmem]
    exact holds_write h r

theorem request_eq {u : PriceUnit} {id : RequestId} (h : u.jobRequest = some id) : PU.request u = id := by
  rw [PU.request, h, Option.getD_some]

/-- Settles O31, by the outcome of the job's check. -/
theorem checkCompletionSettlesThePriceFault : Obligations.CheckCompletionSettlesThePriceFault := by
  unfold Obligations.CheckCompletionSettlesThePriceFault
  intro s j id hrun hjob htype hid hroom
  have h := room_of_hasRoom hroom
  rw [exec_checkCompletion hrun]
  refine ⟨fun hpass => ?_, fun f hfail => ?_⟩
  · have hdone : PU.completeCheck s = PU.idle (JW.offerC (.opDone id 7 .done none) (PU.clearFault s)) := by
      simp [PU.completeCheck, hjob, htype, hpass, request_eq hid]
    have hend := idle_offerC h.clearFault (.opDone id 7 .done none)
    rw [← hdone, clearFault_eq] at hend
    exact ⟨_, rfl, hend⟩
  · have hdone : PU.completeCheck s = PU.idle (JW.offerC (.opDone id 7 .priceFault (some f)) (PU.setFault s)) := by
      simp [PU.completeCheck, hjob, htype, hfail, request_eq hid]
    have hend := idle_offerC h.setFault (.opDone id 7 .priceFault (some f))
    rw [← hdone, setFault_eq] at hend
    exact ⟨_, rfl, hend⟩

/-- The end of a switch: every station is told of it, and the job becomes IDLE (R57, step 7). -/
theorem idle_relookup (x : State) :
    ∃ told, PU.idle (stations.foldl (fun s st => s.modDialogue st (fun d => { d with relookup := true })) x)
      = { x with
          pu := { x.pu with job := none, jobRequest := none }
          sd := Vector.ofFn (fun st => { x.sd[st] with relookup := true }), told := told } := by
  rw [foldl_stations (f := fun d => { d with relookup := true })
    (g := fun s st => s.modDialogue st (fun d => { d with relookup := true })) (fun _ _ => rfl)]
  exact ⟨_, rfl⟩

/-- The PRICE flag once and for all: clearing PRICE_FAULT under it adds nothing (R57, R61). -/
theorem set_price_clearFault (s : State) :
    NU.set .price (PU.clearFault s) = { s with pu := { s.pu with fault := false }, notice := s.notice ||| 0x40#8 } := by
  have hor : s.notice ||| (if s.pu.fault then 0x40#8 else 0#8) ||| 0x40#8 = s.notice ||| 0x40#8 := by
    cases s.pu.fault <;> simp [BitVec.or_assoc]
  rw [clearFault_eq, ← hor]
  rfl

/-- A flag set after a record is counted, or before it. -/
theorem set_counted (f : Machine.Flag) (s : State) : NU.set f (JW.counted s) = JW.counted (NU.set f s) := by
  have hor (n : BitVec 8) : s.notice ||| n ||| 1#8 <<< f.bit = s.notice ||| 1#8 <<< f.bit ||| n := by
    rw [BitVec.or_assoc, BitVec.or_assoc, BitVec.or_comm n]
  simp only [NU.set, JW.counted, hor]
  rfl

/-- The state of a switch under way: the new bank's values active at the next epoch (R57, steps 1 and 2). -/
def switching (j : PriceJob) (s : State) : State :=
  { s with pu := { s.pu with active := some j.bank, count := j.count, crc := j.crc, epoch := PU.nextEpoch s.pu.epoch } }

/-- The two records of a switch, offered in turn (R57). -/
def switchRecords (j : PriceJob) (id : RequestId) (s : State) : State :=
  JW.offerC (.opDone id 6 .done none)
    (JW.offerC (.priceSwitch s.pu.active j.bank j.count j.crc (PU.nextEpoch s.pu.epoch)) (PU.clearFault (switching j s)))

theorem switch_eq {j : PriceJob} {id : RequestId} {s : State} (hid : s.pu.jobRequest = some id) :
    PU.switch j s = PU.idle (stations.foldl (fun s st => s.modDialogue st (fun d => { d with relookup := true }))
      (NU.set .price (switchRecords j id s))) := by
  have hepoch : (PU.clearFault (switching j s)).pu.epoch = PU.nextEpoch s.pu.epoch := by
    rw [clearFault_eq]
    rfl
  rw [← request_eq hid, switchRecords, ← hepoch]
  rfl

/-- A flag set after two records are counted. -/
theorem set_of_counted {v w : State} (f : Machine.Flag) (h : w = { JW.counted (JW.counted v) with mem := w.mem }) :
    NU.set f w = { JW.counted (JW.counted (NU.set f v)) with mem := w.mem } := by
  generalize w.mem = m at h ⊢
  rw [h, ← set_counted, ← set_counted]
  rfl

/-- The two records of a switch, written with room for both. -/
theorem switchRecords_wrote {j : PriceJob} {s : State} (h : Room 2 s) (id : RequestId) :
    let w := switchRecords j id s
    w = { JW.counted (JW.counted (PU.clearFault (switching j s))) with mem := w.mem }
      ∧ SameBytes (fun x => JW.bytes s x ∨ JW.bytes (JW.counted s) x) s w
      ∧ JW.HoldsAll [.priceSwitch s.pu.active j.bank j.count j.crc (PU.nextEpoch s.pu.epoch), .opDone id 6 .done none]
          s.dt.clock s w := by
  have hroom : Room 2 (switching j s) := h.of_same rfl rfl rfl
  have hwrote := offerC_offerC hroom.clearFault (.priceSwitch s.pu.active j.bank j.count j.crc (PU.nextEpoch s.pu.epoch))
    (.opDone id 6 .done none)
  dsimp only at hwrote ⊢
  rw [← switchRecords] at hwrote
  obtain ⟨hstate, hrecords⟩ := hwrote
  refine ⟨hstate, ?_⟩
  rw [clearFault_eq] at hrecords
  exact hrecords

/-- Counting records changes neither the Price Unit nor the dialogues, and depends on neither. -/
theorem counted_counted_with (v : State) (pu : PriceUnit) (sd : Vector Dialogue 8) :
    JW.counted (JW.counted { v with pu := pu, sd := sd }) = { JW.counted (JW.counted v) with pu := pu, sd := sd } := rfl

/-- The state a switch leaves, before its records are counted (R57). -/
def switched (j : PriceJob) (s : State) : State :=
  { s with
    pu := { s.pu with active := some j.bank, count := j.count, crc := j.crc, epoch := PU.nextEpoch s.pu.epoch
                      fault := false, job := none, jobRequest := none }
    notice := s.notice ||| 0x40#8
    sd := Vector.ofFn (fun st => { s.sd[st] with relookup := true }) }

/-- What a switch leaves beside counter memory and the marks of told stations, with room for its records (R57). -/
theorem switch_state {j : PriceJob} {id : RequestId} {s : State} (hid : s.pu.jobRequest = some id) (h : Room 2 s) :
    ∃ told, PU.switch j s
      = { JW.counted (JW.counted (switched j s)) with mem := (switchRecords j id s).mem, told := told } := by
  have hflag := set_of_counted .price (switchRecords_wrote (j := j) h id).1
  have hcounted : JW.counted (JW.counted (switched j s)) = _ := counted_counted_with
    { switching j s with pu := { (switching j s).pu with fault := false }, notice := (switching j s).notice ||| 0x40#8 }
    (switched j s).pu (switched j s).sd
  obtain ⟨told, hidle⟩ := idle_relookup (NU.set .price (switchRecords j id s))
  rw [switch_eq hid, hidle, hflag, set_price_clearFault, hcounted]
  generalize (switchRecords j id s).mem = m
  exact ⟨told, rfl⟩

/-- Settles O30, by the outcome of the job's check. -/
theorem switchCompletionSwitchesTheBank : Obligations.SwitchCompletionSwitchesTheBank := by
  unfold Obligations.SwitchCompletionSwitchesTheBank
  intro s j id hrun hjob htype hid
  rw [exec_switchCompletion hrun]
  refine ⟨fun hpass hroom => ?_, fun f hfail hroom => ?_⟩
  · have h := room_of_hasRoom hroom
    have hdone : PU.completeSwitch s = PU.switch j s := by
      simp [PU.completeSwitch, hjob, htype, hpass]
    obtain ⟨told, hstate⟩ := switch_state (j := j) hid h
    obtain ⟨hmem, hdisplays⟩ := onlyDisplays_flush_of_eq hstate
    obtain ⟨-, hsame, hswitch, hop, -⟩ := switchRecords_wrote (j := j) h id
    rw [hdone]
    refine ⟨_, rfl, hdisplays, fun x hx => ?_, ?_, ?_⟩
    · rw [hmem, hsame x hx]
    · rw [JW.Holds, hmem]
      exact hswitch
    · rw [JW.Holds, hmem]
      exact hop
  · have hdone : PU.completeSwitch s = PU.idle (JW.offerC (.opDone id 6 .priceFault (some f)) s) := by
      simp [PU.completeSwitch, hjob, htype, hfail, request_eq hid]
    rw [hdone]
    exact ⟨_, rfl, idle_offerC (room_of_hasRoom hroom) _⟩

end Sys2Proof.Machine.Prices

/-! PROOFS. The line of tickets and the dispenser: rules for requests whose owner writes records and for the completion of a close first,
then the obligations O26 and O39. -/

namespace Sys2Proof.Machine.Tickets

open Sys2Proof Sys2Proof.Machine Sys2Proof.Machine.Prices

/-! ## Rules for requests whose owner writes records -/

/-! ### Counter memory and lanes exchanged -/

/-- The state `u` over another counter memory and other lanes; `taking` is one such. -/
def rebased (m : Memory) (lanes : LaneUnit) (u : State) : State := { u with mem := m, lu := lanes }

theorem taking_eq_rebased (ln : Lane) (s u : State) :
    taking ln s u = rebased (LU.advanceTaken ln s).mem (LU.advanceTaken ln s).lu u := rfl

/-- Counting a record depends on counter memory by the host's `collected` alone, and on the lanes not at all. -/
theorem counted_rebased {m : Memory} {lanes : LaneUnit} {u : State}
    (h : m.num offsetCollected 4 = u.mem.num offsetCollected 4) :
    JW.counted (rebased m lanes u) = rebased m lanes (JW.counted u) :=
  congrArg (fun v : State => { v with lu := lanes }) (counted_withMem (s := u) h)

/-- The ticket of `e` free and its lapse counted, the record yet to be written (R102). -/
def lapsing (e : LineEntry) (s : State) : State :=
  { s with
    tu := TU.mark e.ticket false s.tu
    dt := { s.dt with acc := { s.dt.acc with grand := { s.dt.acc.grand with
      ticketsLapsed := min (s.dt.acc.grand.ticketsLapsed + 1) 4294967295 } } } }

theorem lapsedTicket_eq (e : LineEntry) (s : State) : lapsedTicket e s = JW.counted (lapsing e s) := rfl

/-- The day closed and every station told, the records of the close yet to be written (R145). -/
def closingDay (s : State) : State :=
  { s with
    dt := { s.dt with day := .closed, close := none, acc := Accumulators.zero }
    sd := Vector.ofFn (fun st => { s.sd[st] with
      pendingAction := .none, pendingBudget := 0, pendingDest := none, mode := .normal, transient := some .dayClosed })
    notice := s.notice ||| 0x20#8 }

theorem closedDay_eq (s : State) : closedDay s = JW.counted (JW.counted (closingDay s)) := rfl

theorem lapsedTicket_rebased {m : Memory} {lanes : LaneUnit} {u : State} (e : LineEntry)
    (h : m.num offsetCollected 4 = u.mem.num offsetCollected 4) :
    lapsedTicket e (rebased m lanes u) = rebased m lanes (lapsedTicket e u) := by
  rw [lapsedTicket_eq, lapsedTicket_eq]
  exact counted_rebased (u := lapsing e u) h

theorem closedDay_rebased {m : Memory} {lanes : LaneUnit} {u : State}
    (h : m.num offsetCollected 4 = u.mem.num offsetCollected 4) :
    closedDay (rebased m lanes u) = rebased m lanes (closedDay u) := by
  have hfirst : JW.counted (rebased m lanes (closingDay u)) = rebased m lanes (JW.counted (closingDay u)) :=
    counted_rebased h
  have hsecond : JW.counted (rebased m lanes (JW.counted (closingDay u))) = rebased m lanes (closedDay u) :=
    counted_rebased h
  calc closedDay (rebased m lanes u) = JW.counted (JW.counted (rebased m lanes (closingDay u))) := closedDay_eq _
    _ = rebased m lanes (closedDay u) := by rw [hfirst, hsecond]

/-! ### Room kept -/

/-- Room stands when the host's `collected`, the Journal Writer and the window do. -/
theorem Room.of_collected {n : Nat} {s t : State} (h : Room n s) (hwf : t.mem.wf = true)
    (hcollected : MP.read t offsetCollected 4 = MP.read s offsetCollected 4) (hjw : t.jw = s.jw)
    (hwin : t.window = s.window) : Room n t := by
  have hused : JW.used t = JW.used s := by rw [JW.used, JW.used, hjw, hcollected]
  obtain ⟨-, hhold, hfault, hroom, hcap, hplaced⟩ := h
  rw [← hused] at hroom
  rw [← hjw] at hhold hfault hroom hcap hplaced
  rw [← hwin] at hplaced
  exact ⟨hwf, hhold, hfault, hroom, hcap, hplaced⟩

theorem Room.mono {n k : Nat} {s : State} (h : Room n s) (hk : k ≤ n) : Room k s :=
  { h with used := by have := h.used; omega }

/-- A record counted takes one free record and leaves the rest of the room. -/
theorem Room.counted {n : Nat} {s : State} (h : Room (n + 1) s) : Room n (JW.counted s) :=
  { wf := h.wf, hold := h.hold, fault := h.fault, capacity := h.capacity, placed := h.placed
    used := by
      have hused := h.used_succ (t := JW.counted s) rfl (fun _ _ => rfl)
      have hroom := h.used
      have hcap : (JW.counted s).jw.capacity = s.jw.capacity := rfl
      omega }

/-- The place of the next record does not meet the place of the second one after it. -/
theorem Room.places_apart_second {n : Nat} {s : State} (h : Room n s) {x : Nat} (hx : within (JW.place s) 64 x) :
    ¬JW.bytes (JW.counted (JW.counted s)) x := by
  obtain ⟨lo, hi, -, -, hbase, hhi, hend⟩ := h.placed
  obtain ⟨hlow, hhigh⟩ := h.place
  have hne : (s.jw.written + 1 + 1).toNat % s.jw.capacity ≠ s.jw.written.toNat % s.jw.capacity := by
    have hcap := h.capacity
    have hw := s.jw.written.isLt
    simp only [List.mem_cons, List.not_mem_nil, or_false] at hcap
    rw [BitVec.toNat_add, BitVec.toNat_add]
    rcases hcap with hc | hc | hc | hc | hc | hc <;> rw [hc] <;> simp <;> omega
  have hsecond : JW.place (JW.counted (JW.counted s))
      = s.jw.base + 64 * ((s.jw.written + 1 + 1).toNat % s.jw.capacity) := rfl
  have hplace : JW.place s = s.jw.base + 64 * (s.jw.written.toNat % s.jw.capacity) := rfl
  simp only [JW.bytes, within, offsetWritten, hsecond] at hx ⊢
  omega

theorem Room.place_end {n : Nat} {s : State} (h : Room n s) : JW.place s + 64 ≤ Config.memorySize := by
  obtain ⟨lo, hi, -, -, -, hhi, hend⟩ := h.placed
  obtain ⟨-, hhigh⟩ := h.place
  omega

/-- The bytes a record written with room takes lie in the journal area or in the `written` word. -/
theorem Room.bytes_subset {n : Nat} {s : State} (h : Room n s) {x : Nat} (hx : JW.bytes s x) :
    within s.jw.base (64 * s.jw.capacity) x ∨ within offsetWritten 4 x := by
  obtain ⟨hlow, hhigh⟩ := h.place
  simp only [JW.bytes, within] at hx ⊢
  omega

theorem Room.place_subset {n : Nat} {s : State} (h : Room n s) {x : Nat} (hx : within (JW.place s) 64 x) :
    within s.jw.base (64 * s.jw.capacity) x := by
  obtain ⟨hlow, hhigh⟩ := h.place
  simp only [within] at hx ⊢
  omega

/-! ### A record of class I written (R169, R170) -/

theorem Room.offerI {n : Nat} {s : State} (h : Room (n + 5) s) (r : RecordBody) : JW.offerI r s = JW.write r s := by
  have hfree := h.free
  rw [JW.offerI, h.ask, if_pos (by omega)]

/-! ### A request taken (R166) -/

theorem slot_mem_ring {ln : Lane} {s : State} (h : LU.placed ln s = true) :
    256 ≤ (s.lane ln).slotBase ∧ (s.lane ln).slotBase ≤ LU.slot (s.lane ln)
      ∧ LU.slot (s.lane ln) + 64 ≤ (s.lane ln).slotBase + 64 * (s.lane ln).capacity := by
  cases hwin : s.window with
  | none => simp [LU.placed, hwin] at h
  | some w =>
    simp only [LU.placed, hwin, Bool.and_eq_true, decide_eq_true_eq] at h
    obtain ⟨-, -, hcap, hbase, -, -⟩ := h
    have hmod := Nat.mod_lt (s.lane ln).taken.toNat hcap
    unfold LU.slot
    omega

/-- The bytes LU writes for a request lie below the directory's journal words or in the ring of its lane. -/
theorem bytes_lane_subset {ln : Lane} {s : State} (h : LU.placed ln s = true) {x : Nat} (hx : LU.bytes ln s x) :
    x < offsetWritten ∨ within (s.lane ln).slotBase (64 * (s.lane ln).capacity) x := by
  have hwords := words_le ln
  obtain ⟨-, hlow, hhigh⟩ := slot_mem_ring h
  simp only [LU.bytes, within, offsetWritten] at hx ⊢
  omega

theorem taking_mem (ln : Lane) (s u : State) :
    (taking ln s u).mem = (MP.write (ln.words + 12) (field 4 ((s.lane ln).taken + 1).toNat) s).mem := by
  cases ln <;> rfl

/-- The `taken` word written first (R166, step 2). -/
theorem sameBytes_taking (ln : Lane) (s : State) : SameBytes (within (ln.words + 12) 4) s (taking ln s s) := by
  intro x hx
  have hwords := words_le ln
  rw [taking_mem, get_write_apart (by simp [Config.memorySize]; omega) (by simpa using hx)]

theorem collected_taking (ln : Lane) (s : State) :
    MP.read (taking ln s s) offsetCollected 4 = MP.read s offsetCollected 4 := by
  have hwords := words_le ln
  refine congrArg leNat (bytes_congr (by simp [offsetCollected, Config.memorySize]) (fun x hx => ?_))
  refine sameBytes_taking ln s x (fun hx' => ?_)
  simp only [within, offsetCollected] at hx hx'
  omega

theorem Room.taking {n : Nat} {s : State} (h : Room n s) (ln : Lane) : Room n (taking ln s s) :=
  Room.of_collected h (by rw [taking_mem]; exact Memory.wf_writeIn _ _ _ _ h.wf) (collected_taking ln s) rfl rfl

/-- An answer's state, beside counter memory and the lanes. -/
theorem answer_frame (ln : Lane) (slot : Nat) (a : Answer) (x : State) :
    LU.answer ln slot a x = { x with
      mem := (LU.answer ln slot a x).mem, lu := (LU.answer ln slot a x).lu, notice := x.notice ||| 1#8 } := by
  unfold LU.answer LU.writeCount
  generalize a.bytes = half, field 4 _ = count
  rw [set_answered]
  cases ln <;> rfl

/-- The two writes of an answer: the answer half and the `answered` word (R166, steps 7 and 8). -/
theorem answer_writes (ln : Lane) (slot : Nat) (a : Answer) (x : State) :
    (LU.answer ln slot a x).mem
      = (MP.write (ln.words + 16) (field 4 ((x.lane ln).answered + 1).toNat) (MP.write (slot + 32) a.bytes x)).mem := by
  cases ln <;> rfl

theorem answer_lanes {ln : Lane} {s x : State} (hlanes : x.lu = (taking ln s s).lu) (slot : Nat) (a : Answer) :
    (LU.answer ln slot a x).lu
      = (s.modLane ln (fun k => { k with taken := k.taken + 1, answered := k.answered + 1 })).lu := by
  rw [← answer_lu ln slot a s s]
  cases ln <;> simp only [LU.answer, LU.writeCount, NU.set_lu, MP.write_lu, State.modLane, hlanes]

theorem answered_of_lanes {ln : Lane} {s x : State} (hlanes : x.lu = (taking ln s s).lu) :
    (x.lane ln).answered = (s.lane ln).answered := by
  cases ln <;> simp only [State.lane, hlanes] <;> rfl

/-- What an answer writes after the owner has left `x`, in a lane that lies as R155 has it. -/
theorem answer_words_after {ln : Lane} {s x : State} {lo hi : Nat} (h : Placed ln s lo hi) (hkept : Kept (taking ln s s) x)
    (a : Answer) :
    let y := LU.answer ln (LU.slot (s.lane ln)) a x
    y.mem.bytes (LU.slot (s.lane ln) + 32) 32 = a.bytes
      ∧ y.mem.num (ln.words + 16) 4 = ((s.lane ln).answered + 1).toNat
      ∧ SameBytes (fun c => within (LU.slot (s.lane ln) + 32) 32 c ∨ within (ln.words + 16) 4 c) x y := by
  have hwords := words_le ln
  obtain ⟨hwf, hwindow, hlo, hslot, hslotEnd, hfits⟩ := h
  have hsize : Config.memorySize = 262144 := rfl
  have hwinx : x.window = some (lo, hi) := hkept.window.trans hwindow
  have hwfx : x.mem.wf = true := hkept.form (by rw [taking_mem]; exact Memory.wf_writeIn _ _ _ _ hwf)
  have hhalf := bytes_write_self (s := x) (bs := a.bytes) (a := LU.slot (s.lane ln) + 32) hwfx hwinx (by omega)
    (by simp; omega) hfits
  have hword := bytes_write_self (s := MP.write (LU.slot (s.lane ln) + 32) a.bytes x) (a := ln.words + 16)
    (bs := field 4 ((s.lane ln).answered + 1).toNat) (Memory.wf_writeIn _ _ _ _ hwfx) hwinx (by omega)
    (by simp; omega) hfits
  rw [length_answer_bytes] at hhalf
  rw [length_field] at hword
  dsimp only
  rw [SameBytes, answer_writes, answered_of_lanes hkept.lanes]
  refine ⟨?_, ?_, fun c hc => ?_⟩
  · rw [bytes_write_apart (by simp; omega) (by omega) (.inl (by simp; omega)), hhalf]
  · rw [Memory.num, hword, leNat_field_count]
  · rw [get_write_apart (by simp; omega) (fun hw => hc (.inr (by simpa using hw))),
      get_write_apart (by simp; omega) (fun hw => hc (.inl (by simpa using hw)))]

/-- The `taken` word stands when neither the owner nor the answer writes it. -/
theorem taken_word_after {ln : Lane} {s x y : State} {lo hi : Nat} (h : Placed ln s lo hi) {p : Nat → Prop}
    (hsame : SameBytes p (taking ln s s) x) (hclear : ∀ c, within (ln.words + 12) 4 c → ¬p c)
    (hanswer : SameBytes (fun c => within (LU.slot (s.lane ln) + 32) 32 c ∨ within (ln.words + 16) 4 c) x y) :
    y.mem.num (ln.words + 12) 4 = ((s.lane ln).taken + 1).toNat := by
  have hwords := words_le ln
  obtain ⟨hwf, hwindow, hlo, hslot, hslotEnd, hfits⟩ := h
  have hsize : Config.memorySize = 262144 := rfl
  have hword := bytes_write_self (s := s) (a := ln.words + 12) (bs := field 4 ((s.lane ln).taken + 1).toNat) hwf hwindow
    hlo (by simp; omega) hfits
  rw [length_field] at hword
  have hstands : y.mem.bytes (ln.words + 12) 4 = (taking ln s s).mem.bytes (ln.words + 12) 4 := by
    refine bytes_congr (by omega) (fun c hc => (hanswer c (fun hc' => ?_)).trans (hsame c (hclear c hc)))
    simp only [within] at hc hc'
    omega
  rw [Memory.num, hstands, taking_mem, hword, leNat_field_count]

/-- A request whose owner writes the bytes of `p`, clear of the `taken` word, and leaves `u` beside counter memory and the marks of told
stations, is served as R166 says; what the owner wrote stands but for LU's own bytes. -/
theorem served_of_writes {ln : Lane} {s u x : State} {a : Answer} {p : Nat → Prop} {told : Vector Bool 8}
    (hplaced : LU.placed ln s = true) (hserve : serve (LU.request ln s) (taking ln s s) = (x, a))
    (hstate : x = { taking ln s u with mem := x.mem, told := told }) (hsame : SameBytes p (taking ln s s) x)
    (hclear : ∀ c, within (ln.words + 12) 4 c → ¬p c) :
    LU.Served ln a p s u (LU.takeOne ln s) ∧ SameBytes (LU.bytes ln s) x (LU.takeOne ln s) := by
  obtain ⟨lo, hi, hplace⟩ := placed_of hplaced
  have hkept : Kept (taking ln s s) x := (serve_kept (.refl _) _).of_pair hserve
  obtain ⟨hhalf, hanswered, hanswer⟩ := answer_words_after hplace hkept a
  have htaken := taken_word_after hplace hsame hclear hanswer
  have hlanes := answer_lanes hkept.lanes (LU.slot (s.lane ln)) a
  have hframe := answer_frame ln (LU.slot (s.lane ln)) a x
  have htake : LU.takeOne ln s = LU.countRoutine ln (SD.flush (LU.answer ln (LU.slot (s.lane ln)) a x)) := by
    rw [LU.takeOne, advanceTaken_eq, hserve]
  rw [htake]
  generalize LU.answer ln (LU.slot (s.lane ln)) a x = y at *
  have hmem : (LU.countRoutine ln (SD.flush y)).mem = y.mem := by rw [countRoutine_eq, flush_mem]
  have hown : SameBytes (LU.bytes ln s) x y := fun c hc => hanswer c (fun hc' => hc (by
    simp only [LU.bytes, within] at hc' ⊢
    omega))
  refine ⟨⟨countRoutine_lu_congr ln ((flush_lu y).trans hlanes), ?_, ?_, ?_, fun c hc => ?_, ?_⟩, fun c hc => ?_⟩
  · rw [hmem, hhalf]
  · rw [hmem, htaken]
  · rw [hmem, hanswered]
  · rw [hmem, hown c (fun h => hc (.inl h)), hsame c (fun h => hc (.inr h))]
    exact sameBytes_taking ln s c (fun h => hc (.inl (.inr (by simp only [within] at h ⊢; omega))))
  · have hdisplays := onlyDisplays_withLu (onlyDisplays_flush y) (LU.countRoutine ln (SD.flush y)).lu
    rw [← countRoutine_eq] at hdisplays
    rw [hmem]
    generalize LU.countRoutine ln (SD.flush y) = t at hdisplays ⊢
    rw [hframe, hstate] at hdisplays
    exact hdisplays
  · rw [hmem]
    exact hown c hc

/-! ## The completion of a close -/

/-! ### A totals area (R161) -/

theorem area_in_window {s : State} {area : Nat} (h : MP.areaGood s area = true) :
    ∃ lo hi, s.window = some (lo, hi) ∧ lo ≤ area ∧ area + 1024 ≤ hi := by
  cases hwin : s.window with
  | none => simp [MP.areaGood, hwin] at h
  | some w =>
    simp only [MP.areaGood, hwin, Bool.and_eq_true, decide_eq_true_eq] at h
    obtain ⟨⟨-, hlo, hhi⟩, -⟩ := h
    exact ⟨w.1, w.2, rfl, hlo, hhi⟩

/-- A totals area MP passes shares no byte with a region that has bytes. -/
theorem area_apart {s : State} {area : Nat} (h : MP.areaGood s area = true) {r : Region} (hr : r ∈ MP.regions s)
    (hbytes : r.lo < r.hi) : area + 1024 ≤ r.lo ∨ r.hi ≤ area := by
  obtain ⟨lo, hi, hwin, -, -⟩ := area_in_window h
  simp only [MP.areaGood, hwin, Bool.and_eq_true, List.all_eq_true, Bool.not_eq_true', Region.overlaps,
    decide_eq_false_iff_not] at h
  obtain ⟨-, hregions⟩ := h
  have hr := hregions r hr
  omega

theorem area_above_directory {s : State} {area : Nat} (h : MP.areaGood s area = true) : 256 ≤ area := by
  have hapart := area_apart h (r := { lo := 0, hi := 256 }) (by simp [MP.regions, regionList]) (by decide)
  simp only at hapart
  omega

theorem area_apart_journal {s : State} {area : Nat} (h : MP.areaGood s area = true) (hcap : 0 < s.jw.capacity) :
    area + 1024 ≤ s.jw.base ∨ s.jw.base + 64 * s.jw.capacity ≤ area :=
  area_apart h (r := { lo := s.jw.base, hi := s.jw.base + 64 * s.jw.capacity }) (by simp [MP.regions, regionList])
    (by simp only; omega)

theorem area_apart_ring {ln : Lane} {s : State} {area : Nat} (h : MP.areaGood s area = true)
    (hcap : 0 < (s.lane ln).capacity) :
    area + 1024 ≤ (s.lane ln).slotBase ∨ (s.lane ln).slotBase + 64 * (s.lane ln).capacity ≤ area := by
  refine area_apart h
    (r := { lo := (s.lane ln).slotBase, hi := (s.lane ln).slotBase + 64 * (s.lane ln).capacity }) ?_
    (by simp only; omega)
  cases ln <;> simp [MP.regions, regionList, State.lane]

/-! ### The records of a close (R145, R146) -/

theorem Room.capacity_pos {n : Nat} {s : State} (h : Room n s) : 0 < s.jw.capacity := by
  have hcap := h.capacity
  simp only [List.mem_cons, List.not_mem_nil, or_false] at hcap
  omega

/-- The close job stopped and the totals record written to its area: the completion before its two records (R145). -/
def totalled (j : CloseJob) (s : State) : State :=
  DT.writeTotals false j.area { s with dt := { s.dt with close := some j.stop } }

theorem totalled_eq (j : CloseJob) (s : State) :
    totalled j s = { s with dt := { s.dt with close := some j.stop }, mem := (totalled j s).mem } := by
  unfold totalled DT.writeTotals
  generalize DT.totalsRecord false _ = bytes
  rfl

@[simp] theorem totalled_dt (j : CloseJob) (s : State) : (totalled j s).dt = { s.dt with close := some j.stop } := by
  rw [totalled_eq]

@[simp] theorem totalled_pu (j : CloseJob) (s : State) : (totalled j s).pu = s.pu := by
  rw [totalled_eq]

/-- The DAY_CLOSE record of a completion (R145). -/
def dayCloseRecord (j : CloseJob) (s : State) : RecordBody :=
  .dayClose s.dt.openedAt s.dt.clock (s.dt.day == .forced) s.pu.epoch j.area s.dt.acc.grand

theorem dayCloseRecord_totalled (j : CloseJob) (s : State) :
    dayCloseRecord j (totalled j s) = dayCloseRecord j s := by
  simp only [dayCloseRecord, totalled_dt, totalled_pu]

/-- The two records of a completion, offered in turn (R145, R146). -/
def closeRecords (j : CloseJob) (s : State) : State :=
  JW.offerC (.opDone j.request 2 .done none) (JW.offerC (dayCloseRecord j (totalled j s)) (totalled j s))

theorem complete_eq (j : CloseJob) (s : State) :
    ∃ told, DT.complete j s = { NU.set .day (closeRecords j s) with
      dt := { (closeRecords j s).dt with day := .closed, close := none, acc := Accumulators.zero }
      sd := Vector.ofFn (fun st => { (closeRecords j s).sd[st] with
        pendingAction := .none, pendingBudget := 0, pendingDest := none, mode := .normal, transient := some .dayClosed })
      told := told } := by
  have hcomplete : DT.complete j s = DT.setDay .closed
      { SD.reportAll Dialogue.dayClosed (DT.modAcc (fun _ => Accumulators.zero) (closeRecords j s)) with
        dt := { (SD.reportAll Dialogue.dayClosed (DT.modAcc (fun _ => Accumulators.zero) (closeRecords j s))).dt with
          close := none } } := by
    simp only [DT.complete, closeRecords, dayCloseRecord, totalled]
  rw [hcomplete, reportAll_eq]
  generalize closeRecords j s = r
  exact ⟨_, rfl⟩

/-- The totals record does not tell of the close job (R152). -/
theorem totalsRecord_withClose (read : Bool) (s : State) (c : Option CloseJob) :
    DT.totalsRecord read { s with dt := { s.dt with close := c } } = DT.totalsRecord read s := by
  simp only [DT.totalsRecord]

theorem totalled_mem (j : CloseJob) (s : State) :
    (totalled j s).mem = (MP.write j.area (DT.totalsRecord false s) s).mem := by
  rw [totalled, DT.writeTotals, totalsRecord_withClose]
  exact write_mem_congr rfl rfl _ _

@[simp] theorem length_totalsRecord (read : Bool) (s : State) : (DT.totalsRecord read s).length = 1024 :=
  length_padTo 1024 _

theorem collected_totalled {j : CloseJob} {s : State} (harea : MP.areaGood s j.area = true)
    (hend : j.area + 1024 ≤ Config.memorySize) :
    MP.read (totalled j s) offsetCollected 4 = MP.read s offsetCollected 4 := by
  have hlow := area_above_directory harea
  refine congrArg leNat ?_
  rw [totalled_mem]
  exact bytes_write_apart (by simpa using hend) (by simp [offsetCollected, Config.memorySize])
    (.inr (by simp only [offsetCollected]; omega))

theorem Room.area_end {n : Nat} {s : State} {area : Nat} (h : Room n s) (harea : MP.areaGood s area = true) :
    area + 1024 ≤ Config.memorySize := by
  obtain ⟨lo, hi, hwin, -, -, -, hend⟩ := h.placed
  obtain ⟨lo', hi', hwin', -, hhi⟩ := area_in_window harea
  rw [hwin] at hwin'
  cases hwin'
  omega

theorem Room.totalled {n : Nat} {j : CloseJob} {s : State} (h : Room n s) (harea : MP.areaGood s j.area = true) :
    Room n (totalled j s) :=
  Room.of_collected h (by rw [totalled_mem]; exact (MP.write_kept (.refl s) _ _).form h.wf)
    (collected_totalled harea (Room.area_end h harea)) (by rw [totalled_eq]) (by rw [totalled_eq])

/-- A totals area meets no byte of the next two records. -/
theorem Room.area_clear {n : Nat} {s : State} {area x : Nat} (h : Room (n + 2) s) (harea : MP.areaGood s area = true)
    (hx : within area 1024 x) : ¬(JW.bytes s x ∨ JW.bytes (JW.counted s) x) := by
  have hlow := area_above_directory harea
  have hapart := area_apart_journal harea (Room.capacity_pos h)
  have hjw : (JW.counted s).jw.base = s.jw.base ∧ (JW.counted s).jw.capacity = s.jw.capacity := ⟨rfl, rfl⟩
  rintro (hb | hb)
  · have := Room.bytes_subset h hb
    simp only [within, offsetWritten] at hx this
    omega
  · have := Room.bytes_subset (Room.counted h) hb
    simp only [within, offsetWritten, hjw] at hx this
    omega

/-- Counting two records depends on counter memory by the host's `collected` alone, on the day unit not at all. -/
theorem counted_counted_withMem {s : State} {m : Memory} (dt : DayUnit)
    (h : m.num offsetCollected 4 = s.mem.num offsetCollected 4) :
    JW.counted (JW.counted { s with mem := m, dt := dt }) = { JW.counted (JW.counted s) with mem := m, dt := dt } := by
  have hfirst : JW.counted { s with mem := m } = { JW.counted s with mem := m } := counted_withMem h
  have hsecond : JW.counted { JW.counted s with mem := m } = { JW.counted (JW.counted s) with mem := m } :=
    counted_withMem h
  calc JW.counted (JW.counted { s with mem := m, dt := dt })
      = { JW.counted (JW.counted { s with mem := m }) with dt := dt } := rfl
    _ = { JW.counted (JW.counted s) with mem := m, dt := dt } := by rw [hfirst, hsecond]

/-- A close's two records with DAY set, written with room (R145). -/
theorem set_closeRecords {j : CloseJob} {s : State} (h : Room 2 s) (harea : MP.areaGood s j.area = true) :
    NU.set .day (closeRecords j s) = { JW.counted (JW.counted (NU.set .day s)) with
      mem := (closeRecords j s).mem, dt := { s.dt with close := some j.stop } } := by
  have hoffers := (offerC_offerC (Room.totalled h harea) (dayCloseRecord j (totalled j s)) (.opDone j.request 2 .done none)).1
  rw [← closeRecords] at hoffers
  have hflag := set_of_counted .day hoffers
  have htotalled := congrArg (NU.set .day) (totalled_eq j s)
  have hcollected := collected_totalled harea (Room.area_end h harea)
  rw [hflag]
  rw [MP.read] at hcollected
  generalize (totalled j s).mem = m, (closeRecords j s).mem = m' at htotalled hcollected ⊢
  have hcounted := counted_counted_withMem (s := NU.set .day s) { s.dt with close := some j.stop } hcollected
  rw [htotalled]
  exact congrArg (fun v : State => { v with mem := m' }) hcounted

/-- What the completion of a close with room leaves, beside counter memory and the marks of told stations (R145). -/
theorem complete_state {j : CloseJob} {s : State} (h : Room 2 s) (harea : MP.areaGood s j.area = true) :
    ∃ told, DT.complete j s = { closedDay s with mem := (closeRecords j s).mem, told := told } := by
  obtain ⟨told, hcomplete⟩ := complete_eq j s
  have hset := set_closeRecords h harea
  have hdt : (closeRecords j s).dt = { s.dt with close := some j.stop } := by rw [← NU.set_dt .day, hset]
  have hsd : (closeRecords j s).sd = s.sd := by
    rw [← NU.set_sd .day, hset]
    rfl
  refine ⟨told, ?_⟩
  rw [hcomplete, hdt, hsd, hset]
  generalize (closeRecords j s).mem = m
  rfl

/-- A close completed with room: what is left, which bytes are written, and what they hold (R145, R146). -/
theorem complete_wrote {j : CloseJob} {s : State} (h : Room 2 s) (harea : MP.areaGood s j.area = true) :
    (∃ told, DT.complete j s = { closedDay s with mem := (DT.complete j s).mem, told := told })
      ∧ SameBytes (closeBytes j s) s (DT.complete j s) ∧ closeWritten j s (DT.complete j s) := by
  obtain ⟨told, hstate⟩ := complete_state h harea
  have hmem : (DT.complete j s).mem = (closeRecords j s).mem := by rw [hstate]
  obtain ⟨-, hsame, hclose, hdone, -⟩ := offerC_offerC (Room.totalled h harea)
    (dayCloseRecord j (totalled j s)) (.opDone j.request 2 .done none)
  rw [← closeRecords] at hsame hclose hdone
  rw [dayCloseRecord_totalled] at hclose
  rw [totalled_eq] at hsame hclose hdone
  obtain ⟨lo, hi, hwin, hlo, hhi⟩ := area_in_window harea
  have hend := Room.area_end h harea
  obtain ⟨lo', hi', hwin', -, -, -, hfits⟩ := h.placed
  rw [hwin] at hwin'
  cases hwin'
  have htotals := bytes_write_self (bs := DT.totalsRecord false s) h.wf hwin hlo (by simpa using hhi) hfits
  rw [length_totalsRecord, ← totalled_mem] at htotals
  have hbeside {x : Nat} (hx : ¬within j.area 1024 x) : (totalled j s).mem.get x = s.mem.get x := by
    rw [totalled_mem, get_write_apart (by simpa using hend) (by simpa using hx)]
  have hclear {x : Nat} (hx : within j.area 1024 x) : ¬(JW.bytes s x ∨ JW.bytes (JW.counted s) x) :=
    Room.area_clear (n := 0) h harea hx
  generalize (totalled j s).mem = m at *
  refine ⟨⟨told, by rw [hmem]; exact hstate⟩, fun x hx => ?_, ?_, ?_, ?_⟩
  · rw [hmem, hsame x (fun hb => hx (.inr hb)), ← hbeside (fun hw => hx (.inl hw))]
  · rw [hmem, bytes_congr hend (fun x hx => hsame x (hclear hx)), htotals]
  · rw [JW.Holds, hmem]
    exact hclose
  · rw [JW.Holds, hmem]
    exact hdone

/-! ## ISSUE_TICKET and LINE_EDIT -/

/-! ### The issue of a ticket (R103, R105) -/

/-- The state in which the next free number has been issued to the bottom of the line and counted (R99, R100, R103, R105). -/
def issuedTicket (source : TicketSource) (s : State) : State :=
  { s with
    tu := { TU.mark (TU.number s.tu) true s.tu with
      next := if TU.number s.tu = 99 then 1 else TU.number s.tu + 1
      line := s.tu.line ++ [{ ticket := TU.number s.tu, issued := s.dt.clock.time, skips := 0, source := source }] }
    dt := { s.dt with acc := { s.dt.acc with grand := { s.dt.acc.grand with
      ticketsIssued := min (s.dt.acc.grand.ticketsIssued + 1) 4294967295 } } } }

theorem issue_eq_issuedTicket (source : TicketSource) (s : State) : TU.issue source s = issuedTicket source s := rfl

theorem lineFull_iff (s : State) : TU.lineFull s = true ↔ 64 ≤ s.tu.line.length := decide_eq_true_iff

/-! ### The lapse of a ticket (R102) -/

/-- A ticket lapses with room: its number free, its lapse counted, its record written (R102). -/
theorem lapse_wrote {n : Nat} {s : State} (h : Room (n + 5) s) (cause : LapseCause) (e : LineEntry) :
    let t := TU.lapse cause e s
    t = { lapsedTicket e s with mem := t.mem } ∧ SameBytes (JW.bytes s) s t
      ∧ JW.Holds (.ticketLapsed e cause) s.dt.clock s t ∧ Room (n + 4) t := by
  intro t
  have hfree : Room (n + 5) (TU.free e.ticket s) := h.of_same rfl rfl rfl
  have ht : t = DT.countLapsed (JW.write (.ticketLapsed e cause) (TU.free e.ticket s)) := by
    change TU.lapse cause e s = _
    rw [TU.lapse, Room.offerI hfree]
  have hstate := write_eq_counted hfree (.ticketLapsed e cause)
  have hsame := sameBytes_write hfree (.ticketLapsed e cause)
  have hholds := holds_write hfree (.ticketLapsed e cause)
  have hroom := hfree.write (.ticketLapsed e cause)
  rw [ht]
  generalize JW.write (.ticketLapsed e cause) (TU.free e.ticket s) = w at *
  refine ⟨?_, hsame, hholds, hroom.of_same rfl rfl rfl⟩
  have hmem : (DT.countLapsed w).mem = w.mem := rfl
  rw [hmem]
  generalize w.mem = m at hstate ⊢
  rw [hstate]
  rfl

/-! ### The drop of a ticket (R106, R142) -/

theorem totalsRecord_rebased (read : Bool) (m : Memory) (lanes : LaneUnit) (u : State) :
    DT.totalsRecord read (rebased m lanes u) = DT.totalsRecord read u := by
  simp only [DT.totalsRecord, rebased]

/-- What a completion writes depends neither on counter memory nor on the lanes (R145). -/
theorem closeWritten_rebased {j : CloseJob} {m : Memory} {lanes : LaneUnit} {u t : State}
    (h : closeWritten j (rebased m lanes u) t) : closeWritten j u t := by
  obtain ⟨htotals, hclose, hdone⟩ := h
  rw [totalsRecord_rebased] at htotals
  exact ⟨htotals, hclose, hdone⟩

theorem mark_line (n : Nat) (used : Bool) (t : TicketUnit) : (TU.mark n used t).line = t.line := by
  unfold TU.mark
  split <;> rfl

/-- The ticket of `e` dropped: out of the line and lapsed (R102, R106). -/
def lapsedDrop (e : LineEntry) (s : State) : State :=
  TU.lapse .dropped e (TU.setLine (lineWithout e.ticket s.tu.line) s)

theorem lapse_line {n : Nat} {s : State} (h : Room (n + 5) s) (cause : LapseCause) (e : LineEntry) :
    (TU.lapse cause e s).tu.line = s.tu.line := by
  rw [(lapse_wrote h cause e).1]
  exact mark_line _ _ _

theorem drop_eq {n : Nat} {s : State} (h : Room (n + 5) s) (e : LineEntry) :
    TU.drop e s = if lineWithout e.ticket s.tu.line = [] then DT.reported (lapsedDrop e s) else lapsedDrop e s := by
  have hset : Room (n + 5) (TU.setLine (lineWithout e.ticket s.tu.line) s) := h.of_same rfl rfl rfl
  have hline : (lapsedDrop e s).tu.line = lineWithout e.ticket s.tu.line := lapse_line hset .dropped e
  rw [← hline]
  rfl

/-- The state that a dropped ticket leaves, with room for its record (R102, R106). -/
def droppedTicket (e : LineEntry) (s : State) : State :=
  lapsedTicket e (TU.setLine (lineWithout e.ticket s.tu.line) s)

/-- A drop while a request is taken, with room for its record. -/
theorem lapsedDrop_taking {s : State} (h : Room 5 s) (ln : Lane) (e : LineEntry) :
    let x := lapsedDrop e (taking ln s s)
    x = { taking ln s (droppedTicket e s) with mem := x.mem } ∧ SameBytes (JW.bytes s) (taking ln s s) x
      ∧ JW.Holds (.ticketLapsed e .dropped) s.dt.clock s x ∧ Room 4 x := by
  intro x
  have hset : Room 5 (TU.setLine (lineWithout e.ticket s.tu.line) (taking ln s s)) :=
    (Room.taking h ln).of_same rfl rfl rfl
  obtain ⟨hstate, hsame, hholds, hroom⟩ := lapse_wrote (n := 0) hset .dropped e
  have htaking : lapsedTicket e (TU.setLine (lineWithout e.ticket s.tu.line) (taking ln s s))
      = taking ln s (droppedTicket e s) := by
    rw [taking_eq_rebased ln s (droppedTicket e s)]
    exact lapsedTicket_rebased (u := TU.setLine (lineWithout e.ticket s.tu.line) s) e (collected_taking ln s)
  rw [htaking] at hstate
  exact ⟨hstate, hsame, hholds, hroom⟩

theorem Room.journal_clear_taken {n : Nat} {s : State} (h : Room n s) {ln : Lane} {c : Nat}
    (hc : within (ln.words + 12) 4 c) : ¬JW.bytes s c := by
  intro hb
  have hwords := words_le ln
  obtain ⟨lo, hi, -, -, hbase, -, -⟩ := h.placed
  have hplace := Room.bytes_subset h hb
  simp only [within, offsetWritten] at hc hplace
  omega

/-- The journal area is clear of the bytes LU writes for a request (R155, check 6). -/
theorem Room.journal_clear_request {n : Nat} {s : State} (h : Room n s) {ln : Lane} (hplaced : LU.placed ln s = true)
    (hapart : JW.apart ln s = true) {c : Nat} (hc : within s.jw.base (64 * s.jw.capacity) c) : ¬LU.bytes ln s c := by
  intro hb
  obtain ⟨lo, hi, -, -, hbase, -, -⟩ := h.placed
  have hapart := of_decide_eq_true hapart
  have hlane := bytes_lane_subset hplaced hb
  simp only [within, offsetWritten] at hc hlane
  omega

/-- A totals area is clear of the bytes LU writes for a request (R161). -/
theorem area_clear_request {ln : Lane} {s : State} {area : Nat} (hplaced : LU.placed ln s = true)
    (harea : MP.areaGood s area = true) {c : Nat} (hc : within area 1024 c) : ¬LU.bytes ln s c := by
  intro hb
  obtain ⟨-, hslot, hslotEnd⟩ := slot_mem_ring hplaced
  have hlow := area_above_directory harea
  have hring := area_apart_ring (ln := ln) harea (by omega)
  have hlane := bytes_lane_subset hplaced hb
  simp only [within, offsetWritten] at hc hlane
  omega

/-- A dropped ticket, dropped while a request is taken or not, moves no region nor the window. -/
theorem areaGood_droppedTicket (ln : Lane) (s : State) (e : LineEntry) (m : Memory) (area : Nat) :
    MP.areaGood { taking ln s (droppedTicket e s) with mem := m } area = MP.areaGood s area := by
  cases ln <;> rfl

theorem room_droppedTicket {n : Nat} {s : State} (h : Room (n + 1) s) (e : LineEntry) : Room n (droppedTicket e s) :=
  Room.counted (s := lapsing e (TU.setLine (lineWithout e.ticket s.tu.line) s)) (h.of_same rfl rfl rfl)

/-- The completion of a close writes no byte of a lane's `taken` word. -/
theorem Room.close_clear_taken {n : Nat} {s : State} (h : Room (n + 1) s) {j : CloseJob} (harea : 256 ≤ j.area) {ln : Lane}
    {c : Nat} (hc : within (ln.words + 12) 4 c) : ¬closeBytes j s c := by
  have hwords := words_le ln
  rintro (hb | hb | hb)
  · simp only [within] at hc hb
    omega
  · exact Room.journal_clear_taken h hc hb
  · exact Room.journal_clear_taken (Room.counted h) hc hb

/-- The bytes of the next record are clear of what the completion of a close after it writes. -/
theorem Room.place_clear_close {n : Nat} {s : State} (h : Room n s) {j : CloseJob} (harea : MP.areaGood s j.area = true)
    (e : LineEntry) {c : Nat} (hc : within (JW.place s) 64 c) : ¬closeBytes j (droppedTicket e s) c := by
  obtain ⟨hlow, hhigh⟩ := h.place
  have hapart := area_apart_journal harea (Room.capacity_pos h)
  rintro (hb | hb | hb)
  · simp only [within] at hc hb
    omega
  · exact h.places_apart hc hb
  · exact Room.places_apart_second h hc hb

/-- The drop of the last ticket completes the close, while a request is taken, with room for the three records (R142, R145). -/
theorem complete_lapsedDrop {s : State} (h : Room 5 s) (ln : Lane) (e : LineEntry) {j : CloseJob}
    (harea : MP.areaGood s j.area = true) :
    let x := DT.complete j (lapsedDrop e (taking ln s s))
    (∃ told, x = { taking ln s (closedDay (droppedTicket e s)) with mem := x.mem, told := told })
      ∧ SameBytes (fun c => JW.bytes s c ∨ closeBytes j (droppedTicket e s) c) (taking ln s s) x
      ∧ JW.Holds (.ticketLapsed e .dropped) s.dt.clock s x ∧ closeWritten j (droppedTicket e s) x := by
  dsimp only
  obtain ⟨hstate, hsame, hholds, hroom⟩ := lapsedDrop_taking h ln e
  have hcollected : MP.read (lapsedDrop e (taking ln s s)) offsetCollected 4 = MP.read s offsetCollected 4 :=
    ((Room.taking h ln).collected hsame).trans (collected_taking ln s)
  have hgood : MP.areaGood (lapsedDrop e (taking ln s s)) j.area = true := by
    rw [hstate, areaGood_droppedTicket, harea]
  obtain ⟨⟨told, hclosed⟩, hwrites, hwritten⟩ := complete_wrote (Room.mono hroom (by decide)) hgood
  generalize DT.complete j (lapsedDrop e (taking ln s s)) = x at *
  generalize lapsedDrop e (taking ln s s) = w at *
  have hclosedDay : closedDay w = { taking ln s (closedDay (droppedTicket e s)) with mem := w.mem } := by
    have hmem : w.mem.num offsetCollected 4 = (droppedTicket e s).mem.num offsetCollected 4 := hcollected
    rw [hstate]
    exact closedDay_rebased hmem
  have hbytes : closeBytes j w = closeBytes j (droppedTicket e s) := by rw [hstate]; rfl
  rw [hbytes] at hwrites
  refine ⟨⟨told, ?_⟩, fun c hc => ?_, ?_, ?_⟩
  · rw [hclosedDay] at hclosed
    exact hclosed
  · rw [hwrites c (fun hb => hc (.inr hb)), hsame c (fun hb => hc (.inl hb))]
  · rw [JW.Holds, bytes_congr (Room.place_end h) (fun c hc => hwrites c (Room.place_clear_close h harea e hc))]
    exact hholds
  · have hrebased : w = rebased w.mem (LU.advanceTaken ln s).lu (droppedTicket e s) := hstate
    rw [hrebased] at hwritten
    exact closeWritten_rebased hwritten

/-- What a drop leaves when no close can complete with it (R106). -/
theorem drop_goesOn {n : Nat} {s : State} (h : Room (n + 5) s) {e : LineEntry}
    (hgoes : lineWithout e.ticket s.tu.line ≠ [] ∨ s.dt.close = none) : TU.drop e s = lapsedDrop e s := by
  have hset : Room (n + 5) (TU.setLine (lineWithout e.ticket s.tu.line) s) := h.of_same rfl rfl rfl
  have hclose : (lapsedDrop e s).dt.close = s.dt.close := by
    rw [lapsedDrop, (lapse_wrote hset .dropped e).1]
    rfl
  rw [drop_eq h]
  split
  case isFalse => rfl
  case isTrue hempty =>
    rw [DT.reported, hclose, hgoes.resolve_left (not_not.mpr hempty)]

/-- The drop of the last ticket of a CLOSING day without orders (R106, R142). -/
theorem drop_completes {n : Nat} {s : State} (h : Room (n + 5) s) {e : LineEntry} {j : CloseJob}
    (hempty : lineWithout e.ticket s.tu.line = []) (hday : s.dt.day = .waiting ∨ s.dt.day = .forced)
    (hclose : s.dt.close = some j) (horders : OT.inUse s = []) : TU.drop e s = DT.complete j (lapsedDrop e s) := by
  have hset : Room (n + 5) (TU.setLine (lineWithout e.ticket s.tu.line) s) := h.of_same rfl rfl rfl
  have hlapsed := (lapse_wrote hset .dropped e).1
  rw [← lapsedDrop] at hlapsed
  have hdt : (lapsedDrop e s).dt.close = s.dt.close ∧ (lapsedDrop e s).dt.day = s.dt.day := by
    rw [hlapsed]
    exact ⟨rfl, rfl⟩
  have hclosing : (lapsedDrop e s).closing = true := by
    rw [State.closing, hdt.2]
    rcases hday with hday | hday <;> rw [hday] <;> rfl
  have hinUse : OT.inUse (lapsedDrop e s) = [] := by
    rw [hlapsed]
    exact horders
  have hline : (lapsedDrop e s).tu.line = [] := (lapse_line hset .dropped e).trans hempty
  have hcounter : DT.counterEmpty (lapsedDrop e s) = true := by rw [DT.counterEmpty, hinUse, hline]; rfl
  rw [drop_eq h, if_pos hempty, DT.reported, hdt.1, hclose]
  simp only [hclosing, hcounter, Bool.and_self, if_true]

/-! ### The requests (R105, R106) -/

theorem exec_issueTicket {ln : Lane} {s : State} (h : LU.takes ln (fun k => k == 13) s = true) :
    exec .issueTicket s = .next (LU.takeOne ln s) :=
  congrArg Host.Outcome.next (takeRequest_of_takes h)

theorem exec_lineEdit {ln : Lane} {s : State} (h : LU.takes ln (fun k => k == 14) s = true) :
    exec .lineEdit s = .next (LU.takeOne ln s) :=
  congrArg Host.Outcome.next (takeRequest_of_takes h)

/-- ISSUE_TICKET goes to its owner (R166, step 3). -/
theorem serve_issueTicket {ln : Lane} {s : State} (h : LU.kindAt ln s = 13) (x : State) :
    serve (LU.request ln s) x = serveIssueTicket (LU.request ln s) x := by
  have hkind : (LU.request ln s).kind = 13 := h
  simp only [serve, hkind]

/-- LINE_EDIT with good parameters goes to its owner, which looks for the ticket in the line (R106, R166, step 3). -/
theorem serve_lineEdit {ln : Lane} {s : State} (h : LU.kindAt ln s = 14) (hgood : firstBadParam ln s = 0) (x : State) :
    serve (LU.request ln s) x
      = (x.tu.line.find? (fun e => e.ticket == LU.param ln 2 s)).elim (x, .of .notFound)
          (fun e => TU.edit (LU.param ln 1 s) e x) := by
  have hkind : (LU.request ln s).kind = 14 := h
  have haction : (LU.request ln s).p 1 = LU.param ln 1 s := rfl
  have hticket : (LU.request ln s).p 2 = LU.param ln 2 s := rfl
  have hparams : ¬1 < LU.param ln 1 s ∧ ¬¬(1 ≤ LU.param ln 2 s ∧ LU.param ln 2 s ≤ 99) := by
    simp only [firstBadParam, h] at hgood
    split at hgood
    · omega
    · split at hgood <;> omega
  obtain ⟨hfirst, hsecond⟩ := hparams
  simp only [serve, hkind, serveLineEdit, haction, hticket]
  rw [if_neg hfirst, if_neg hsecond]
  cases x.tu.line.find? (fun e => e.ticket == LU.param ln 2 s) <;> rfl

@[simp] theorem taking_dt (ln : Lane) (s u : State) : (taking ln s u).dt = u.dt := rfl

@[simp] theorem taking_tu (ln : Lane) (s u : State) : (taking ln s u).tu = u.tu := rfl

@[simp] theorem lineFull_taking (ln : Lane) (s u : State) : TU.lineFull (taking ln s u) = TU.lineFull u := rfl

/-- R105, in its three cases. -/
theorem issueTicket_served {ln : Lane} {s : State} (hplaced : LU.placed ln s = true) (hkind : LU.kindAt ln s = 13) :
    (s.dt.day ≠ .opened → LU.Served ln (.of .wrongState) noBytes s s (LU.takeOne ln s))
    ∧ (s.dt.day = .opened → 64 ≤ s.tu.line.length → LU.Served ln (.of .full) noBytes s s (LU.takeOne ln s))
    ∧ (s.dt.day = .opened → s.tu.line.length < 64 →
      LU.Served ln (.done [TU.number s.tu, s.tu.line.length + 1]) noBytes s (issuedTicket .host s) (LU.takeOne ln s)) := by
  refine ⟨fun hday => ?_, fun hday hfull => ?_, fun hday hroom => ?_⟩
  · refine served_of_quiet hplaced rfl ?_
    rw [serve_issueTicket hkind, serveIssueTicket, taking_dt, if_pos hday]
  · refine served_of_quiet hplaced rfl ?_
    rw [serve_issueTicket hkind, serveIssueTicket, taking_dt, lineFull_taking, if_neg (not_not.mpr hday),
      if_pos ((lineFull_iff s).mpr hfull)]
  · refine served_of_quiet hplaced rfl ?_
    rw [serve_issueTicket hkind, serveIssueTicket, taking_dt, lineFull_taking, if_neg (not_not.mpr hday),
      if_neg (by rw [lineFull_iff]; omega)]
    rfl

/-- A record stands when a request's answer is written after it, in a journal apart from the lane (R155, check 6). -/
theorem holds_stands {n k : Nat} {ln : Lane} {s v x t : State} {r : RecordBody} {clock : Stamp} (h : Room n s)
    (hplaced : LU.placed ln s = true) (hapart : JW.apart ln s = true) (hstands : SameBytes (LU.bytes ln s) x t)
    (hv : Room k v) (hbase : v.jw.base = s.jw.base) (hcap : v.jw.capacity = s.jw.capacity) (hx : JW.Holds r clock v x) :
    JW.Holds r clock v t := by
  have hclear {c : Nat} (hc : within (JW.place v) 64 c) : ¬LU.bytes ln s c := by
    have hjournal := Room.place_subset hv hc
    rw [hbase, hcap] at hjournal
    exact Room.journal_clear_request h hplaced hapart hjournal
  rw [JW.Holds, bytes_congr (Room.place_end hv) (fun c hc => hstands c (hclear hc))]
  exact hx

/-- A drop by LINE_EDIT that completes no close (R102, R106). -/
theorem drop_served {ln : Lane} {s : State} {e : LineEntry} {a : Answer} (hplaced : LU.placed ln s = true)
    (h : Room 5 s) (hapart : JW.apart ln s = true)
    (hserve : serve (LU.request ln s) (taking ln s s) = (TU.drop e (taking ln s s), a))
    (hgoes : lineWithout e.ticket s.tu.line ≠ [] ∨ s.dt.close = none) :
    LU.Served ln a (JW.bytes s) s (droppedTicket e s) (LU.takeOne ln s)
      ∧ JW.Holds (.ticketLapsed e .dropped) s.dt.clock s (LU.takeOne ln s) := by
  obtain ⟨hstate, hsame, hholds, -⟩ := lapsedDrop_taking h ln e
  rw [drop_goesOn (n := 0) (Room.taking h ln) hgoes] at hserve
  obtain ⟨hserved, hstands⟩ := served_of_writes (told := s.told) hplaced hserve hstate hsame
    (fun c hc => Room.journal_clear_taken h hc)
  exact ⟨hserved, holds_stands h hplaced hapart hstands h rfl rfl hholds⟩

/-- A drop by LINE_EDIT that completes a close (R102, R106, R142). -/
theorem closing_drop_served {ln : Lane} {s : State} {e : LineEntry} {a : Answer} {j : CloseJob}
    (hplaced : LU.placed ln s = true) (h : Room 5 s) (hapart : JW.apart ln s = true)
    (hserve : serve (LU.request ln s) (taking ln s s) = (TU.drop e (taking ln s s), a))
    (hempty : lineWithout e.ticket s.tu.line = []) (hday : s.dt.day = .waiting ∨ s.dt.day = .forced)
    (hclose : s.dt.close = some j) (horders : OT.inUse s = []) (harea : MP.areaGood s j.area = true) :
    LU.Served ln a (fun x => JW.bytes s x ∨ closeBytes j (droppedTicket e s) x) s (closedDay (droppedTicket e s))
        (LU.takeOne ln s)
      ∧ JW.Holds (.ticketLapsed e .dropped) s.dt.clock s (LU.takeOne ln s)
      ∧ closeWritten j (droppedTicket e s) (LU.takeOne ln s) := by
  obtain ⟨⟨told, hstate⟩, hsame, hholds, htotals, hclosed, hdone⟩ := complete_lapsedDrop h ln e harea
  have hdropped := room_droppedTicket h e
  have hclear {c : Nat} (hc : within (ln.words + 12) 4 c) :
      ¬(JW.bytes s c ∨ closeBytes j (droppedTicket e s) c) := by
    rintro (hb | hb)
    · exact Room.journal_clear_taken h hc hb
    · exact Room.close_clear_taken hdropped (area_above_directory harea) hc hb
  rw [drop_completes (n := 0) (Room.taking h ln) hempty hday hclose horders] at hserve
  obtain ⟨hserved, hstands⟩ := served_of_writes hplaced hserve hstate hsame (fun c hc => hclear hc)
  refine ⟨hserved, holds_stands h hplaced hapart hstands h rfl rfl hholds, ?_, ?_, ?_⟩
  · rw [bytes_congr (Room.area_end h harea) (fun c hc => hstands c (area_clear_request hplaced harea hc)), htotals]
  · exact holds_stands h hplaced hapart hstands hdropped rfl rfl hclosed
  · exact holds_stands h hplaced hapart hstands (Room.counted hdropped) rfl rfl hdone

/-- Settles O26, by the request's kind, then by the cases of R105, and by the action of R106 and whether the drop completes a close. -/
theorem lineRequestsChangeTheLine : Obligations.LineRequestsChangeTheLine := by
  unfold Obligations.LineRequestsChangeTheLine
  intro ln s hplaced
  refine ⟨fun htakes => ?_, fun htakes hgood => ⟨fun hnone => ?_, fun e hfound => ⟨fun hmove => ?_,
    fun hdrop hroom hapart => ?_⟩⟩⟩
  · obtain ⟨hwrong, hfull, hissue⟩ := issueTicket_served hplaced (kindAt_of_takes htakes)
    exact ⟨fun hday => ⟨_, exec_issueTicket htakes, hwrong hday⟩,
      fun hday hline => ⟨_, exec_issueTicket htakes, hfull hday hline⟩,
      fun hday hline => ⟨_, exec_issueTicket htakes, hissue hday hline⟩⟩
  · refine ⟨_, exec_lineEdit htakes, served_of_quiet hplaced rfl ?_⟩
    rw [serve_lineEdit (kindAt_of_takes htakes) hgood, taking_tu, hnone, Option.elim_none]
  · refine ⟨_, exec_lineEdit htakes, served_of_quiet hplaced rfl ?_⟩
    rw [serve_lineEdit (kindAt_of_takes htakes) hgood, taking_tu, hfound, Option.elim_some, TU.edit, if_pos hmove]
    rfl
  · have hserve : serve (LU.request ln s) (taking ln s s)
        = (TU.drop e (taking ln s s), .done [(lineWithout e.ticket s.tu.line).length]) := by
      rw [serve_lineEdit (kindAt_of_takes htakes) hgood, taking_tu, hfound, Option.elim_some, TU.edit,
        if_neg (by omega), taking_tu]
    have h := room_of_hasRoom hroom
    refine ⟨fun hgoes => ⟨_, exec_lineEdit htakes, drop_served hplaced h hapart hserve hgoes⟩,
      fun j hempty hday hclose horders harea => ⟨_, exec_lineEdit htakes, ?_⟩⟩
    rw [show lineWithout e.ticket s.tu.line = [] from hempty] at hserve
    exact closing_drop_served hplaced h hapart hserve hempty hday hclose horders harea

/-! ## The dispenser's frames -/

/-! ### A delivered frame (R175, R178) -/

theorem goodFrame_lk (l : LinkNo) (s : State) : LK.goodFrame l s = { s with lk := (LK.goodFrame l s).lk } := by
  unfold LK.goodFrame
  dsimp only
  split <;> rfl

@[simp] theorem goodFrame_tu (l : LinkNo) (s : State) : (LK.goodFrame l s).tu = s.tu := by rw [goodFrame_lk]

@[simp] theorem goodFrame_dt (l : LinkNo) (s : State) : (LK.goodFrame l s).dt = s.dt := by rw [goodFrame_lk]

/-- A good frame touches of its own link the receiver and the silence timer alone. -/
theorem link_goodFrame (l : LinkNo) (s : State) :
    (LK.goodFrame l s).link l = { s.link l with rx := [], silence := ((LK.goodFrame l s).link l).silence } := by
  unfold LK.goodFrame
  dsimp only
  split
  · rw [State.link_modLink]
  · rw [LK.startSilence, State.link_modLink, State.link_modLink]

/-- A frame that can be delivered is, to its owner. -/
theorem take_of_delivers {l : LinkNo} {s : State} (h : LK.delivers l s = true) (f : State → State) :
    LK.take l f s = f (LK.goodFrame l s) := by
  obtain ⟨hrun, hup⟩ := Bool.and_eq_true_iff.mp h
  rw [LK.take, if_pos hrun, if_pos hup]

/-! ### TAKE (R103, R182) -/

theorem exec_take {s : State} (h : LK.delivers dispenserLink s = true) (q : Byte) :
    exec (.take q) s = .next (SD.flush (LK.deliverTake q (LK.goodFrame dispenserLink s))) := by
  change Host.Outcome.next (SD.flush (LK.takeFrame q s)) = _
  rw [LK.takeFrame, take_of_delivers h]

/-- A TAKE with the last sequence has the last answer sent again (R182). -/
theorem deliverTake_resend {s : State} {q : Byte} (h : (s.link dispenserLink).lastTake = some q) :
    LK.deliverTake q (LK.goodFrame dispenserLink s)
      = (s.link dispenserLink).lastTakeAnswer.elim (LK.goodFrame dispenserLink s)
          (fun f => LK.hand dispenserLink f (LK.goodFrame dispenserLink s)) := by
  have hlast : ((LK.goodFrame dispenserLink s).link dispenserLink).lastTake = some q := by rwa [link_goodFrame]
  have hanswer : ((LK.goodFrame dispenserLink s).link dispenserLink).lastTakeAnswer
      = (s.link dispenserLink).lastTakeAnswer := by rw [link_goodFrame]
  rw [LK.deliverTake, if_pos hlast, hanswer]
  cases (s.link dispenserLink).lastTakeAnswer <;> rfl

/-- A TAKE with another sequence goes to TU, the sequence held (R182). -/
theorem deliverTake_fresh {s : State} {q : Byte} (h : (s.link dispenserLink).lastTake ≠ some q) :
    LK.deliverTake q (LK.goodFrame dispenserLink s)
      = TU.take ((LK.goodFrame dispenserLink s).modLink dispenserLink (fun k => { k with lastTake := some q })) := by
  have hlast : ((LK.goodFrame dispenserLink s).link dispenserLink).lastTake ≠ some q := by rwa [link_goodFrame]
  rw [LK.deliverTake, if_neg hlast]

theorem take_notOpened {s : State} (h : s.dt.day ≠ .opened) : TU.take s = TU.answerTake (.refuse .closed) s := if_pos h

theorem take_full {s : State} (hday : s.dt.day = .opened) (hfull : 64 ≤ s.tu.line.length) :
    TU.take s = TU.answerTake (.refuse .full) s := by
  rw [TU.take, if_neg (not_not.mpr hday), if_pos ((lineFull_iff s).mpr hfull)]

theorem take_issues {s : State} (hday : s.dt.day = .opened) (hroom : s.tu.line.length < 64) :
    TU.take s = TU.answerTake (.printTicket (TU.number s.tu) s.dt.clock.time) (issuedTicket .dispenser s) := by
  rw [TU.take, if_neg (not_not.mpr hday), if_neg (by rw [lineFull_iff]; omega), issue_eq_issuedTicket]

/-! ### PAPER_OUT (R104) -/

theorem exec_paperOut {s : State} (h : LK.delivers dispenserLink s = true) :
    exec .paperOut s
      = .next (SD.flush (TU.dispenserEvent .fault (some .paperOut) (LK.goodFrame dispenserLink s))) := by
  change Host.Outcome.next (SD.flush (LK.paperOut s)) = _
  rw [LK.paperOut, take_of_delivers h]

/-- An event that ends with one record written with room and a flag set: the record is counted and stands. -/
theorem flush_set_offerI {s : State} (h : Room 5 s) (f : Machine.Flag) (r : RecordBody) :
    let t := SD.flush (NU.set f (JW.offerI r s))
    OnlyDisplays { JW.counted (NU.set f s) with mem := t.mem } t ∧ SameBytes (JW.bytes s) s t
      ∧ JW.Holds r s.dt.clock s t := by
  have hwritten : NU.set f (JW.offerI r s)
      = { JW.counted (NU.set f s) with mem := (JW.write r s).mem, told := s.told } := by
    rw [Room.offerI h, write_eq_counted h, ← set_counted]
    rfl
  obtain ⟨hmem, hdisplays⟩ := onlyDisplays_flush_of_eq hwritten
  refine ⟨hdisplays, fun x hx => ?_, ?_⟩
  · rw [hmem, sameBytes_write h r x hx]
  · rw [JW.Holds, hmem]
    exact holds_write h r

theorem Room.goodFrame {n : Nat} {s : State} (h : Room n s) (l : LinkNo) : Room n (LK.goodFrame l s) := by
  rw [goodFrame_lk]
  exact h.of_same rfl rfl rfl

theorem paperOut_recorded {s : State} (h : Room 5 s) :
    let t := SD.flush (TU.dispenserEvent .fault (some .paperOut) (LK.goodFrame dispenserLink s))
    OnlyDisplays { JW.counted { LK.goodFrame dispenserLink s with notice := s.notice ||| 0x10#8 } with mem := t.mem } t
      ∧ SameBytes (JW.bytes s) s t ∧ JW.Holds (.printerEvent 10 .fault (some .paperOut) 0 0) s.dt.clock s t := by
  have hevent := flush_set_offerI (Room.goodFrame h dispenserLink) .printer
    (.printerEvent dispenserLink .fault (some .paperOut) 0 0)
  dsimp only at hevent ⊢
  rw [← TU.dispenserEvent] at hevent
  generalize SD.flush (TU.dispenserEvent _ _ _) = t at hevent ⊢
  rw [goodFrame_lk] at hevent ⊢
  exact hevent

/-- Settles O39, by the sequence of the TAKE and the cases of R103. -/
theorem dispenserFramesAreTaken : Obligations.DispenserFramesAreTaken := by
  unfold Obligations.DispenserFramesAreTaken
  refine ⟨fun s q hdelivers => ⟨fun hfresh => ?_, fun hresend => ?_⟩, fun s hdelivers hroom => ?_⟩
  · have hday : ((LK.goodFrame dispenserLink s).modLink dispenserLink (fun k => { k with lastTake := some q })).dt
        = s.dt := goodFrame_dt _ s
    have htu : ((LK.goodFrame dispenserLink s).modLink dispenserLink (fun k => { k with lastTake := some q })).tu
        = s.tu := goodFrame_tu _ s
    rw [exec_take hdelivers, deliverTake_fresh hfresh]
    refine ⟨fun hclosed => ?_, fun hopen hfull => ?_, fun hopen hline => ?_⟩
    · rw [take_notOpened (by rwa [hday])]
      exact ⟨_, rfl, onlyDisplays_flush _⟩
    · rw [take_full (by rwa [hday]) (by rwa [htu])]
      exact ⟨_, rfl, onlyDisplays_flush _⟩
    · rw [take_issues (by rwa [hday]) (by rwa [htu]), issuedTicket, hday, htu]
      exact ⟨_, rfl, onlyDisplays_flush _⟩
  · rw [exec_take hdelivers, deliverTake_resend hresend]
    refine ⟨_, rfl, ?_⟩
    cases (s.link dispenserLink).lastTakeAnswer with
    | none => exact onlyDisplays_flush _
    | some f => exact onlyDisplays_flush _
  · exact ⟨_, exec_paperOut hdelivers, paperOut_recorded (room_of_hasRoom hroom)⟩

end Sys2Proof.Machine.Tickets
